-- ==== Sys2Proof/Word.lean ====
section
/-! DEFINITION. The two word types of the block: the 16-bit op word of the operation port (30_encoding.md R80)
and the 8-bit byte of the bus, of a transaction's payload and of the duty-cycle register (00_scope.md R10). -/

namespace Sys2Proof

/-- The op word `W[15:0]` (30_encoding.md R80). -/
abbrev Word := BitVec 16

/-- An 8-bit unsigned value (00_scope.md R10). -/
abbrev Byte := BitVec 8

end Sys2Proof
end

