-- ==== Sys2Proof/Syntax.lean ====
section
/-! DEFINITION. The operations of the block as typed terms: the operand types of 00_scope.md R10, 10_state.md R20 and
40_pin_bus.md R104, and one constructor of `Instr` per row of spec/opcode_table.json (30_encoding.md R83, R88). -/

namespace Sys2Proof

/-- A Level: 0 (`low`) or 1 (`high`) (00_scope.md R10). -/
inductive Level where
  | low
  | high
deriving DecidableEq, Repr, Inhabited

/-- A Direction (00_scope.md R10). -/
inductive Direction where
  | input
  | output
deriving DecidableEq, Repr

/-- A Mode of a transaction (00_scope.md R10, 41_transaction_sequencer.md R120). -/
inductive Mode where
  | command
  | data
deriving DecidableEq, Repr, Inhabited

/-- The single lines (10_state.md R20), in designator order (20_memory.md R61). `cs k` is a line of the block only for
`k < N_CS`; `Line.wellFormed` checks it. -/
inductive Line where
  | led
  | contrastEn
  | reset
  | masterEn
  | e
  | rw
  | mode
  | cs (k : Nat)
deriving DecidableEq, Repr

/-- What a `CFGDIR` may name: a single line, or the eight bus pins as one group (40_pin_bus.md R104). -/
inductive Target where
  | line (l : Line)
  | bus
deriving DecidableEq, Repr

/-- The four delays with a code (30_encoding.md R86); also the `kind` of a `DelayEvent` (10_state.md R36). -/
inductive DelayKind where
  | setup
  | postData
  | postCmd
  | settle
deriving DecidableEq, Repr

/-- The operations: the ten rows of 30_encoding.md R83 and the pseudo-operation `WRBYTE` of R88, which the opcode table
lists as a row of its own. -/
inductive Instr where
  /-- `CFGDIR line, dir` (40_pin_bus.md R100). -/
  | cfgdir (target : Target) (dir : Direction)
  /-- `WRLINE line, level` (40_pin_bus.md R101). -/
  | wrline (line : Line) (level : Level)
  /-- `WRBUS byte` (40_pin_bus.md R102). -/
  | wrbus (byte : Byte)
  /-- `EXEC byte, mode` (41_transaction_sequencer.md R122). -/
  | exec (byte : Byte) (mode : Mode)
  /-- `WRBYTE byte`, the pseudo-operation `EXEC byte, Data` (41_transaction_sequencer.md R124). -/
  | wrbyte (byte : Byte)
  /-- `SETC level` (42_pwm_contrast.md R152). -/
  | setc (level : Byte)
  /-- `PWMINIT` (42_pwm_contrast.md R151). -/
  | pwminit
  /-- `WAIT code` (43_init_sequencer.md R182). -/
  | wait (kind : DelayKind)
  /-- `INIT` (43_init_sequencer.md R180). -/
  | init
  /-- `RDTICK` (44_tick_control_loop.md R201). -/
  | rdtick
  /-- `CLRTICK` (44_tick_control_loop.md R202). -/
  | clrtick
deriving DecidableEq, Repr

/-- An operation with its pseudo-operation expanded: `WRBYTE byte` is `EXEC byte, Data` (30_encoding.md R88). -/
def Instr.core : Instr → Instr
  | .wrbyte b => .exec b .data
  | .cfgdir t d => .cfgdir t d
  | .wrline l v => .wrline l v
  | .wrbus b => .wrbus b
  | .exec b m => .exec b m
  | .setc v => .setc v
  | .pwminit => .pwminit
  | .wait k => .wait k
  | .init => .init
  | .rdtick => .rdtick
  | .clrtick => .clrtick

end Sys2Proof
end

