-- ==== Sys2Proof/Config.lean ====
section
/-! DEFINITION. The implementation parameters of 00_scope.md R6 and the free values of 93_implementation_defined.md
part 2. A parameter the spec marks OPEN, and every free value, is an opaque constant: no proof can see what it is.
The other parameters have the reference values of R6 (notes/assumptions/12.md). Rules use the names only (R6, R257). -/

namespace Sys2Proof.Config

/-- `T_SETUP`, nominal, in ns (00_scope.md R6). -/
def tSetup : Nat := 1000

/-- `T_POST_CMD`, nominal, in ns (00_scope.md R6). -/
def tPostCmd : Nat := 5000000

/-- `T_POST_DATA`, nominal, in ns (00_scope.md R6). -/
def tPostData : Nat := 5000

/-- `T_SETTLE`, nominal, in ns (00_scope.md R6). -/
def tSettle : Nat := 20000000

/-- `T_TICK`, nominal, in ns (00_scope.md R6). No rule of the block reads it: the tick events are inputs (44 R200). -/
def tTick : Nat := 8000000

/-- `PWM_TOP_VALUE = 2^W_PERIOD - 1` (00_scope.md R6). -/
def pwmTopValue : BitVec 10 := 1023#10

/-- `CONTRAST_STEP` (00_scope.md R6). -/
def contrastStep : Byte := 8#8

/-- The first of `INIT_CMDS`: 0x39, "(display-on)" (00_scope.md R6, 43_init_sequencer.md R181). -/
def initCmd1 : Byte := 0x39#8

/-- The second of `INIT_CMDS`: 0x3A, "(auto-increment addressing mode)" (00_scope.md R6, 43_init_sequencer.md R181). -/
def initCmd2 : Byte := 0x3A#8

/-- The third of `INIT_CMDS`: 0x00, "(reset write cursor to address 0)" (00_scope.md R6, 43_init_sequencer.md R181). -/
def initCmd3 : Byte := 0x00#8

/-- `CONTRAST_INIT`, OPEN (00_scope.md R6, D21). -/
opaque contrastInit : Byte

/-- How many chips there are beyond the first: `N_CHIPS` is OPEN with `N_CHIPS >= 1` (00_scope.md R6, D26). -/
opaque moreChips : Nat

/-- `N_CHIPS` (00_scope.md R6). -/
def nChips : Nat := moreChips + 1

/-- `N_CS` (00_scope.md R6, D26). -/
def nCS : Nat := 1

/-- `CSMAP`: every chip to select line 0 (00_scope.md R6, D26). -/
def csMap (_chip : Nat) : Nat := 0

/-- `EXT[l]`, the level on the pin of a line that is an input: the reference wiring (10_state.md R24, D4). -/
def ext : Line → Level
  | .cs _ => .high
  | .led => .low
  | .contrastEn => .low
  | .reset => .low
  | .masterEn => .low
  | .e => .low
  | .rw => .low
  | .mode => .low

/-- `EXTBUS` (10_state.md R24). -/
def extBus : Byte := 0x00#8

/-- The grounded line of each chip's select model: the constant 0 (10_state.md R24). -/
def grounded : Level := .low

/-- `T_CLK`, OPEN (00_scope.md R6, D27). No rule converts generator clocks to time (42 R153). DESIGN CHOICE: the spec gives
it no unit and no domain; here it is a rational number of ns (notes/assumptions/11.md). -/
opaque tClk : Rat

/-- `V_HIGH`, OPEN (00_scope.md R6, D20); rational, as `V_HIGH * H / 1024` is "the exact rational" of 42_pwm_contrast.md
R156. -/
opaque vHigh : Rat

/-- The `n`-th time draw: how far a `Step()` or `Sleep` goes beyond its lower bound (00_scope.md R8, R11; 93 V1, V2).
FREE VALUE (notes/assumptions/3.md). -/
opaque freeTime : Nat → Nat

/-- The `n`-th drawn Level: `OUT[l]` after `F_NOT_OUTPUT` (40_pin_bus.md R101; 93 V5). FREE VALUE
(notes/assumptions/4.md). -/
opaque freeLevel : Nat → Level

/-- The `n`-th drawn byte: `BUSOUT` after `F_NOT_OUTPUT` (40_pin_bus.md R102; 93 V5) and the idle `SEQ_PAYLOAD`
(10_state.md R26; 93 V6). FREE VALUE (notes/assumptions/4.md, 5.md). -/
opaque freeByte : Nat → Byte

/-- The `n`-th drawn Mode: the idle `SEQ_MODE` (10_state.md R26; 93 V6). FREE VALUE (notes/assumptions/5.md). -/
opaque freeMode : Nat → Mode

end Sys2Proof.Config
end

