-- ==== Sys2Proof/WellFormed.lean ====
section
/-! DEFINITION. Which terms of `Instr` are operations of the block: the one operand condition the types do not already
carry is that a per-chip select `CS[k]` exists only for `k < N_CS` (30_encoding.md R84, 10_state.md R20). -/

namespace Sys2Proof

/-- The line is one of the `7 + N_CS` single lines (10_state.md R20). -/
def Line.wellFormed : Line → Bool
  | .cs k => decide (k < Config.nCS)
  | .led => true
  | .contrastEn => true
  | .reset => true
  | .masterEn => true
  | .e => true
  | .rw => true
  | .mode => true

/-- The target of a `CFGDIR` is a single line of the block or the bus (30_encoding.md R84). -/
def Target.wellFormed : Target → Bool
  | .line l => l.wellFormed
  | .bus => true

/-- The operand condition of 30_encoding.md R83, R84 for every row. -/
def Instr.wellFormed : Instr → Bool
  | .cfgdir t _ => t.wellFormed
  | .wrline l _ => l.wellFormed
  | .wrbus _ => true
  | .exec _ _ => true
  | .wrbyte _ => true
  | .setc _ => true
  | .pwminit => true
  | .wait _ => true
  | .init => true
  | .rdtick => true
  | .clrtick => true

end Sys2Proof
end

