-- ==== Sys2Proof/Decode.lean ====
section
/-! DEFINITION. The decoder of the op word (30_encoding.md R80 to R86, R90), total on every 16-bit word and rejecting
by name, and after it the encoder, written from the same formats. -/

namespace Sys2Proof

/-- Why a word is illegal (30_encoding.md R85), in the order of the checks of R90. -/
inductive Illegal where
  /-- `W[15:12]` is 0x0 or 0xB to 0xF. -/
  | opcode
  /-- `W[11:9]` is not 000. -/
  | reservedBits
  /-- `W[8]` is 1 where it must be 0. -/
  | bitEight
  /-- The low byte is no designator the operation takes (R84). -/
  | designator
  /-- The low byte is no delay code (R86). -/
  | delayCode
  /-- The low byte of a format Z word is not 0x00. -/
  | lowByte
deriving DecidableEq, Repr

/-- `W[15:12]` (30_encoding.md R81). -/
def opField (w : Word) : BitVec 4 := w.extractLsb' 12 4

/-- `W[11:9]` (30_encoding.md R81). -/
def reservedField (w : Word) : BitVec 3 := w.extractLsb' 9 3

/-- `W[8]` (30_encoding.md R81). -/
def bitEight (w : Word) : Bool := w.getLsbD 8

/-- `W[7:0]` (30_encoding.md R81). -/
def lowByte (w : Word) : Byte := w.extractLsb' 0 8

/-- The single line of a designator (20_memory.md R61). -/
def lineOfDesignator (d : Byte) : Option Line :=
  match d.toNat with
  | 0x00 => some .led
  | 0x01 => some .contrastEn
  | 0x02 => some .reset
  | 0x03 => some .masterEn
  | 0x04 => some .e
  | 0x05 => some .rw
  | 0x06 => some .mode
  | n => if 0x20 ≤ n ∧ n < 0x20 + Config.nCS then some (.cs (n - 0x20)) else none

/-- What a designator names in a `CFGDIR`: a single line, or `BUS` at 0x10 (20_memory.md R61). -/
def targetOfDesignator (d : Byte) : Option Target :=
  if d = 0x10#8 then some .bus else (lineOfDesignator d).map .line

/-- The delay of a code (30_encoding.md R86). -/
def delayOfCode (c : Byte) : Option DelayKind :=
  match c.toNat with
  | 0 => some .setup
  | 1 => some .postData
  | 2 => some .postCmd
  | 3 => some .settle
  | _ => none

/-- `v` as a Direction: 0 is `Input`, 1 is `Output` (30_encoding.md R82). -/
def directionOfBit (v : Bool) : Direction := if v then .output else .input

/-- `v` as a Level (30_encoding.md R82). -/
def levelOfBit (v : Bool) : Level := if v then .high else .low

/-- `m` as a Mode: 0 is `Command`, 1 is `Data` (30_encoding.md R82). -/
def modeOfBit (m : Bool) : Mode := if m then .data else .command

/-- The check of `W[8]` where it must be 0, and then the operation of the low byte. -/
def withBitEightZero (v : Bool) (i : Except Illegal Instr) : Except Illegal Instr :=
  if v then .error .bitEight else i

/-- The check of the low byte of format Z. -/
def withLowByteZero (d : Byte) (i : Instr) : Except Illegal Instr :=
  if d = 0#8 then .ok i else .error .lowByte

/-- A low byte that must name something, or the word is illegal for the reason given. -/
def operandOr {α : Type} (why : Illegal) (x : Option α) (f : α → Instr) : Except Illegal Instr :=
  match x with
  | some a => .ok (f a)
  | none => .error why

/-- The operation of an opcode from `W[8]` and `W[7:0]`, once `W[11:9]` is known to be 000 (30_encoding.md R81, R83). -/
def decodeOperands (op : BitVec 4) (v : Bool) (d : Byte) : Except Illegal Instr :=
  match op.toNat with
  | 0x1 => operandOr .designator (targetOfDesignator d) (.cfgdir · (directionOfBit v))
  | 0x2 => operandOr .designator (lineOfDesignator d) (.wrline · (levelOfBit v))
  | 0x3 => withBitEightZero v (.ok (.wrbus d))
  | 0x4 => .ok (.exec d (modeOfBit v))
  | 0x5 => withBitEightZero v (.ok (.setc d))
  | 0x6 => withBitEightZero v (withLowByteZero d .pwminit)
  | 0x7 => withBitEightZero v (operandOr .delayCode (delayOfCode d) .wait)
  | 0x8 => withBitEightZero v (withLowByteZero d .init)
  | 0x9 => withBitEightZero v (withLowByteZero d .rdtick)
  | 0xA => withBitEightZero v (withLowByteZero d .clrtick)
  | _ => .error .opcode

/-- The opcodes that select a row: 0x1 to 0xA (30_encoding.md R83). -/
def opcodeDefined (op : BitVec 4) : Bool := decide (1 ≤ op.toNat ∧ op.toNat ≤ 10)

/-- The decoder: every word is one of the ten rows of 30_encoding.md R83 with its operands, or illegal, with the checks
in the order of R90: opcode, `W[11:9]`, `W[8]`, low byte. The words of `WRBYTE` are those of `EXEC byte, Data` and
decode to it (R88, R90; notes/assumptions/13.md). -/
def decode (w : Word) : Except Illegal Instr :=
  if opcodeDefined (opField w) then
    if reservedField w = 0#3 then decodeOperands (opField w) (bitEight w) (lowByte w)
    else .error .reservedBits
  else .error .opcode

/-- The decoder on an instruction given as a number whose bit 0 is the least significant bit of the op word, as
spec/opcode_table.json numbers it. Every op word is exactly 16 bits; a longer or shorter one cannot be presented
(20_memory.md R63). -/
def decodeTableWord (nbits w : Nat) : Option Instr :=
  if nbits = 16 ∧ w < 2 ^ 16 then (decode (BitVec.ofNat 16 w)).toOption else none

/-- The designator of a single line (20_memory.md R61). -/
def designatorOfLine : Line → Byte
  | .led => 0x00#8
  | .contrastEn => 0x01#8
  | .reset => 0x02#8
  | .masterEn => 0x03#8
  | .e => 0x04#8
  | .rw => 0x05#8
  | .mode => 0x06#8
  | .cs k => BitVec.ofNat 8 (0x20 + k)

/-- The designator of `BUS` (20_memory.md R61). -/
def busDesignator : Byte := 0x10#8

/-- The designator of what a `CFGDIR` names (20_memory.md R61). -/
def designatorOfTarget : Target → Byte
  | .line l => designatorOfLine l
  | .bus => busDesignator

/-- The code of a delay (30_encoding.md R86). -/
def codeOfDelay : DelayKind → Byte
  | .setup => 0#8
  | .postData => 1#8
  | .postCmd => 2#8
  | .settle => 3#8

/-- The bit `v` of a Direction (30_encoding.md R82). -/
def bitOfDirection : Direction → Bool
  | .input => false
  | .output => true

/-- The bit `v` of a Level (30_encoding.md R82). -/
def bitOfLevel : Level → Bool
  | .low => false
  | .high => true

/-- The bit `m` of a Mode (30_encoding.md R82). -/
def bitOfMode : Mode → Bool
  | .command => false
  | .data => true

/-- The layout all three formats share: `op`, `W[11:9] = 000`, `W[8]`, `W[7:0]` (30_encoding.md R81). -/
def layout (op : BitVec 4) (v : Bool) (low : Byte) : Word := op ++ (0#3 ++ (BitVec.ofBool v ++ low))

/-- The op word of an operation (30_encoding.md R81 to R83, R88). -/
def encode : Instr → Word
  | .cfgdir t d => layout 0x1#4 (bitOfDirection d) (designatorOfTarget t)
  | .wrline l v => layout 0x2#4 (bitOfLevel v) (designatorOfLine l)
  | .wrbus b => layout 0x3#4 false b
  | .exec b m => layout 0x4#4 (bitOfMode m) b
  | .wrbyte b => layout 0x4#4 true b
  | .setc v => layout 0x5#4 false v
  | .pwminit => layout 0x6#4 false 0#8
  | .wait k => layout 0x7#4 false (codeOfDelay k)
  | .init => layout 0x8#4 false 0#8
  | .rdtick => layout 0x9#4 false 0#8
  | .clrtick => layout 0xA#4 false 0#8

end Sys2Proof
end

