-- ==== Sys2Proof/Machine/State.lean ====
section
/-! DEFINITION. The state of the block (10_state.md), the events of its trace, the host agent at its operation port,
the reasons a meaning can stop, and the state after reset (10_state.md R40). Plain data throughout. -/

namespace Sys2Proof.Machine

/-- The six fault causes of the `FAULT` register (60_exceptions.md R221). -/
inductive Cause where
  | illegalOp
  | notOutput
  | setup
  | rate
  | readStrobe
  | reinit
deriving DecidableEq, Repr

/-- What a `FaultEvent` records beside its cause (60_exceptions.md R221). -/
inductive FaultDetail where
  /-- Nothing more than the event. -/
  | plain
  /-- The illegal word, for `F_ILLEGAL_OP`. -/
  | word (w : Word)
  /-- The line designator (0x10 for the bus), for `F_NOT_OUTPUT`. -/
  | designator (d : Byte)
deriving DecidableEq, Repr

/-- Who made a pin change (40_pin_bus.md R103): a host pin operation, a phase of `EXEC`, or a step of `INIT` outside an
`EXEC`. -/
inductive Origin where
  | raw
  | exec
  | init
deriving DecidableEq, Repr

/-- What a latch event records (41_transaction_sequencer.md R126). -/
structure LatchRecord where
  time : Nat
  mode : Mode
  byte : Byte
  rw : Level
  reset : Level
  master : Level
  addressed : List Nat
  origin : Origin
deriving DecidableEq, Repr

/-- The events of `TRACE` (10_state.md R36). -/
inductive Event where
  | pin (t : Nat) (l : Line) (dir : Direction) (level : Level)
  | bus (t : Nat) (dir : Direction) (byte : Byte)
  | latch (r : LatchRecord)
  | delay (t : Nat) (kind : DelayKind) (requested : Nat)
  | fault (t : Nat) (cause : Cause) (detail : FaultDetail)
  | tickRead (t : Nat) (bit : Bool)
  | dutyWrite (t : Nat) (value : Byte)
  | initDone (t : Nat)
deriving DecidableEq, Repr

/-- `DIR[l]` and `OUT[l]` of one single line (10_state.md R21, R22). -/
structure LineReg where
  dir : Direction
  out : Level
deriving DecidableEq, Repr

/-- The registers of the `7 + N_CS` single lines (10_state.md R20). -/
structure LineFile where
  led : LineReg
  contrastEn : LineReg
  reset : LineReg
  masterEn : LineReg
  e : LineReg
  rw : LineReg
  mode : LineReg
  cs : Vector LineReg Config.nCS
deriving DecidableEq, Repr

/-- The registers the Pin/Bus Abstraction owns: `DIR`, `OUT`, `BUSDIR`, `BUSOUT` (10_state.md R21 to R23). -/
structure Pins where
  lines : LineFile
  busDir : Direction
  busOut : Byte
deriving DecidableEq, Repr

/-- `SEQ_PHASE`: 0 is idle, 1 to 6 are the steps of `execute` in the document's numbering (10_state.md R27). -/
inductive Phase where
  | idle
  | p1
  | p2
  | p3
  | p4
  | p5
  | p6
deriving DecidableEq, Repr

/-- `SEQ_MODE`, `SEQ_PAYLOAD`, `SEQ_PHASE` (10_state.md R26, R27). -/
structure Sequencer where
  mode : Mode
  payload : Byte
  phase : Phase
deriving DecidableEq, Repr

/-- The arbiter registers `T_FREE` and `T_STABLE` (10_state.md R28). -/
structure Arbiter where
  tFree : Nat
  tStable : Nat
deriving DecidableEq, Repr

/-- `INIT_STATE` (10_state.md R30). -/
inductive InitStatus where
  | notStarted
  | running
  | ready
deriving DecidableEq, Repr

/-- `INIT_STATE` and `INIT_STEP` (10_state.md R30, R31), and the model's own count `op` of the operations of the current
step already performed (notes/assumptions/8.md). -/
structure InitSeq where
  status : InitStatus
  step : Fin 11
  op : Nat
deriving DecidableEq, Repr

/-- `PWM_WGM` (10_state.md R32). -/
inductive PwmWaveform where
  | off
  | upCount
deriving DecidableEq, Repr

/-- `PWM_COM` (10_state.md R32). -/
inductive PwmPolarity where
  | disconnected
  | clearOnMatchSetAtTop
deriving DecidableEq, Repr

/-- `PWM_CS` (10_state.md R32). -/
inductive PwmClock where
  | stopped
  | undivided
deriving DecidableEq, Repr

/-- The generator: `PWM_WGM`, `PWM_COM`, `PWM_CS`, `PWM_TOP`, `DUTY`, `CNT`, `PWM_OUT` (10_state.md R32 to R34). -/
structure Pwm where
  wgm : PwmWaveform
  com : PwmPolarity
  clk : PwmClock
  top : BitVec 10
  duty : Byte
  cnt : BitVec 10
  out : Level
deriving DecidableEq, Repr

/-- An agent's turn (00_scope.md R7): the host or the sequencer (`main`: the two never move in the same interval), one
generator clock, one tick event, or the reset event of 70_reset_and_hazards.md R250. -/
inductive Turn where
  | main
  | gen
  | tick
  | reset
deriving DecidableEq, Repr

/-- The places of the reference host's program (44_tick_control_loop.md R204). DESIGN CHOICE: what the host does at one
place takes one turn; the greeting with the two assignments after it is one place, and so is reading a byte with its echo,
the `+` test and the new contrast (notes/assumptions/17.md). -/
inductive LoopPlace where
  | issueInit
  | waitConfigured
  | waitReady
  | greet
  | readHost
  | issueSetc
  | issueRdtick
  | testTick
  | issueClrtick
  | issueExec
  | advanceCursor
deriving DecidableEq, Repr

/-- What the reference host sends over the transport: the greeting, whose text is not in the source (44 R208), or a byte
by `HostWrite` (44 R207). -/
inductive HostOut where
  | greeting
  | byte (b : Byte)
deriving DecidableEq, Repr

/-- The reference host: its variables `cursor` and `contrast` (10_state.md R37), its place in the program, the answers
the transport primitives will give in order, and what it has sent (44_tick_control_loop.md R204, R207;
notes/assumptions/17.md). -/
structure ControlLoop where
  place : LoopPlace
  cursor : Byte
  contrast : Byte
  /-- The coming answers of `TransportConfigured()`; none left means the bit stays 0. -/
  configured : List Bool
  /-- The coming answers of `HostReady()`; none left means the bit stays 0. -/
  ready : List Bool
  /-- The coming answers of `HostReadNonBlocking()`; none left means no byte. -/
  inbox : List (Option Byte)
  /-- What `SendGreeting()` and `HostWrite` have sent, oldest first. -/
  sent : List HostOut
deriving DecidableEq, Repr

/-- The host at the operation port (00_scope.md R4, R7): any host, given by the op words it has still to issue, or the
reference control loop. -/
inductive HostAgent where
  | stream (words : List Word)
  | loop (c : ControlLoop)
deriving DecidableEq, Repr

/-- The state of the block and of the host at its port (10_state.md; INVENTORY.md lists every field). -/
@[ext]
structure State where
  /-- `DIR`, `OUT`, `BUSDIR`, `BUSOUT`. -/
  pins : Pins
  /-- `SEQ_MODE`, `SEQ_PAYLOAD`, `SEQ_PHASE`. -/
  seq : Sequencer
  /-- `T_FREE`, `T_STABLE`. -/
  arb : Arbiter
  /-- `WAIT_ACTIVE` (10_state.md R29). -/
  waitActive : Bool
  /-- `INIT_STATE`, `INIT_STEP`. -/
  ini : InitSeq
  /-- The pulse generator. -/
  pwm : Pwm
  /-- `TICK` (10_state.md R35). -/
  tick : Bool
  /-- `FAULT`, bit `n` for the cause with code `n` (60_exceptions.md R221). -/
  fault : BitVec 6
  /-- `NOW`, ns since reset (10_state.md R36). -/
  now : Nat
  /-- `TRACE`, oldest event first (10_state.md R36). -/
  trace : List Event
  /-- The bit last returned on the response channel (30_encoding.md R89). -/
  response : Option Bool
  /-- The model's own: how many free values have been drawn (notes/assumptions/3.md). -/
  draws : Nat
  /-- The model's own: which agent moves next; the empty list is `main` for ever (notes/assumptions/2.md). -/
  turns : List Turn
  /-- The host at the operation port. -/
  host : HostAgent
deriving DecidableEq, Repr

/-- Why a meaning stops. No step of the machine raises one: a fault of the block is a bit of `FAULT`, after which it goes
on (60_exceptions.md R222). -/
inductive Fault where
  /-- Raised by the meanings of `CFGDIR` and `WRLINE` when handed an ill-formed term that names `CS[k]` with
  `k >= N_CS`, a line the block does not have (10_state.md R20). No op word decodes to one. Safe. -/
  | noSuchLine
deriving DecidableEq, Repr

/-- Why an instruction has no meaning. -/
inductive Refusal where
  /-- Raised by an arm of `exec` whose instruction has no meaning yet; no arm does. Safe. -/
  | notModelled (mnemonic : String)
deriving DecidableEq, Repr

/-- A line after reset: an input with its latch at 0 (10_state.md R40). -/
def LineReg.reset : LineReg := { dir := .input, out := .low }

/-- The lines and the bus after reset (10_state.md R40). -/
def Pins.reset : Pins :=
  { lines :=
      { led := .reset, contrastEn := .reset, reset := .reset, masterEn := .reset, e := .reset, rw := .reset,
        mode := .reset, cs := Vector.replicate Config.nCS .reset }
    busDir := .input
    busOut := 0x00#8 }

/-- The sequencer after reset: idle. `SEQ_MODE` and `SEQ_PAYLOAD` are unspecified in the spec; DESIGN CHOICE Command and
0x00 (notes/assumptions/5.md). -/
def Sequencer.reset : Sequencer := { mode := .command, payload := 0x00#8, phase := .idle }

/-- The generator after reset: stopped, output low (10_state.md R40). -/
def Pwm.reset : Pwm :=
  { wgm := .off, com := .disconnected, clk := .stopped, top := 0#10, duty := 0x00#8, cnt := 0#10, out := .low }

/-- The machine right after reset (10_state.md R40, 70_reset_and_hazards.md R250, R251). The last four fields are not the
block's registers; their values are DESIGN CHOICES (notes/assumptions/2.md, 3.md, 15.md, 1.md). -/
def State.reset : State :=
  { pins := .reset
    seq := .reset
    arb := { tFree := 0, tStable := 0 }
    waitActive := false
    ini := { status := .notStarted, step := 0, op := 0 }
    pwm := .reset
    tick := false
    fault := 0#6
    now := 0
    trace := []
    response := none
    draws := 0
    turns := []
    host := .stream [] }

end Sys2Proof.Machine
end

