-- ==== Sys2Proof/Machine/Operands.lean ====
section
/-! DEFINITION. Operand forms: the line registers by line, the levels on the pins (10_state.md R25), the designator
order of the lines, modes as levels (41_transaction_sequencer.md R121), and the interval a delay requests
(30_encoding.md R86). -/

namespace Sys2Proof.Machine

/-- Every single line, in designator order (20_memory.md R61). -/
def allLines : List Line :=
  [.led, .contrastEn, .reset, .masterEn, .e, .rw, .mode] ++ (List.range Config.nCS).map .cs

/-- `DIR[l]` and `OUT[l]`. A line the block does not have reads as an undriven one; no meaning reads it. -/
def LineFile.get (f : LineFile) : Line → LineReg
  | .led => f.led
  | .contrastEn => f.contrastEn
  | .reset => f.reset
  | .masterEn => f.masterEn
  | .e => f.e
  | .rw => f.rw
  | .mode => f.mode
  | .cs k => (f.cs[k]?).getD .reset

/-- Write `DIR[l]` and `OUT[l]` of one line. -/
def LineFile.set (f : LineFile) (r : LineReg) : Line → LineFile
  | .led => { f with led := r }
  | .contrastEn => { f with contrastEn := r }
  | .reset => { f with reset := r }
  | .masterEn => { f with masterEn := r }
  | .e => { f with e := r }
  | .rw => { f with rw := r }
  | .mode => { f with mode := r }
  | .cs k => { f with cs := f.cs.setIfInBounds k r }

/-- `DIR[l]` (10_state.md R21). -/
def Pins.dir (p : Pins) (l : Line) : Direction := (p.lines.get l).dir

/-- `OUT[l]` (10_state.md R22). -/
def Pins.out (p : Pins) (l : Line) : Level := (p.lines.get l).out

/-- `PIN(l) = OUT[l]` if `DIR[l] = Output`, else `EXT[l]` (10_state.md R25). -/
def Pins.pin (p : Pins) (l : Line) : Level :=
  match p.dir l with
  | .output => p.out l
  | .input => Config.ext l

/-- `PINBUS() = BUSOUT` if `BUSDIR = Output`, else `EXTBUS` (10_state.md R25). -/
def Pins.pinBus (p : Pins) : Byte :=
  match p.busDir with
  | .output => p.busOut
  | .input => Config.extBus

/-- `DIR[l] <- d`. -/
def Pins.setDir (p : Pins) (l : Line) (d : Direction) : Pins :=
  { p with lines := p.lines.set { dir := d, out := p.out l } l }

/-- `OUT[l] <- v`. -/
def Pins.setOut (p : Pins) (l : Line) (v : Level) : Pins :=
  { p with lines := p.lines.set { dir := p.dir l, out := v } l }

/-- `BUSDIR <- d`. -/
def Pins.setBusDir (p : Pins) (d : Direction) : Pins := { p with busDir := d }

/-- `BUSOUT <- b`. -/
def Pins.setBusOut (p : Pins) (b : Byte) : Pins := { p with busOut := b }

/-- `DIR[line] <- d` or `BUSDIR <- d` (40_pin_bus.md R100). -/
def Pins.setTargetDir (p : Pins) (t : Target) (d : Direction) : Pins :=
  match t with
  | .line l => p.setDir l d
  | .bus => p.setBusDir d

/-- The level the `MODE` line takes for a mode: 1 for `Data`, 0 for `Command` (41_transaction_sequencer.md R121). -/
def levelOfMode : Mode → Level
  | .command => .low
  | .data => .high

/-- The mode read back from the `MODE` pin (41_transaction_sequencer.md R121, R126). -/
def modeOfLevel : Level → Mode
  | .low => .command
  | .high => .data

/-- The interval a delay requests (30_encoding.md R86). -/
def intervalOf : DelayKind → Nat
  | .setup => Config.tSetup
  | .postData => Config.tPostData
  | .postCmd => Config.tPostCmd
  | .settle => Config.tSettle

/-- The post-transaction delay of a mode (41_transaction_sequencer.md R122 phase 6, R126). -/
def postDelayOf : Mode → DelayKind
  | .command => .postCmd
  | .data => .postData

/-- Which of `n` chips are addressed, given the select line of each chip, the master-enable level and the level of each
select line (41_transaction_sequencer.md R125). -/
def addressedChips (n : Nat) (csMap : Nat → Nat) (master : Level) (select : Nat → Level) : List Nat :=
  (List.range n).filter fun c =>
    decide (Config.grounded = .low ∧ master = .high ∧ select (csMap c) = .high)

/-- `Addressed()` (41_transaction_sequencer.md R125). -/
def Pins.addressed (p : Pins) : List Nat :=
  addressedChips Config.nChips Config.csMap (p.pin .masterEn) fun k => p.pin (.cs k)

end Sys2Proof.Machine
end

