-- ==== Sys2Proof/Machine/ControlLoop.lean ====
section
/-! DEFINITION. The reference control loop, the host program of 44_tick_control_loop.md R204 to R212: what it does in
one turn, given its own variables and the bit last returned by `RDTICK`. -/

namespace Sys2Proof.Machine

/-- The reference host before its first statement (44_tick_control_loop.md R204), with the transport's coming answers.
`cursor` and `contrast` are assigned after the greeting; until then they are not read. -/
def ControlLoop.start (configured ready : List Bool) (inbox : List (Option Byte)) : ControlLoop :=
  { place := .issueInit, cursor := 0#8, contrast := 0#8, configured := configured, ready := ready, inbox := inbox,
    sent := [] }

/-- The ASCII `+` character, 0x2B (44_tick_control_loop.md R204, D32). -/
def plusByte : Byte := 0x2B#8

/-- The contrast level after one `+`: 8 more, modulo 256 (42_pwm_contrast.md R161). -/
def nextContrast (c : Byte) : Byte := c + Config.contrastStep

/-- The contrast level after `n` `+` characters (42_pwm_contrast.md R161). -/
def contrastAfter : Nat → Byte → Byte
  | 0, c => c
  | n + 1, c => contrastAfter n (nextContrast c)

/-- The host byte `b` has been read: echo it, and on `+` raise the contrast level and go on to write it
(44_tick_control_loop.md R205). DESIGN CHOICE: all in the turn that read it (notes/assumptions/17.md). -/
def ControlLoop.serveByte (c : ControlLoop) (b : Byte) : ControlLoop :=
  let c1 := { c with sent := c.sent ++ [HostOut.byte b] }
  if b = plusByte then { c1 with contrast := nextContrast c.contrast, place := .issueSetc }
  else { c1 with place := .issueRdtick }

/-- One turn of the reference host: the op word it issues, if any, and its variables afterwards
(44_tick_control_loop.md R204). `response` is the bit last returned on the response channel. -/
def ControlLoop.turn (c : ControlLoop) (response : Option Bool) : Option Word × ControlLoop :=
  match c.place with
  | .issueInit => (some (encode .init), { c with place := .waitConfigured })
  | .waitConfigured =>
    match c.configured with
    | true :: as => (none, { c with configured := as, place := .waitReady })
    | false :: as => (none, { c with configured := as })
    | [] => (none, c)
  | .waitReady =>
    match c.ready with
    | true :: as => (none, { c with ready := as, place := .greet })
    | false :: as => (none, { c with ready := as })
    | [] => (none, c)
  | .greet =>
    (none, { c with sent := c.sent ++ [HostOut.greeting], contrast := Config.contrastInit, cursor := 0#8, place := .readHost })
  | .readHost =>
    match c.inbox with
    | some b :: as => (none, { c with inbox := as }.serveByte b)
    | none :: as => (none, { c with inbox := as, place := .issueRdtick })
    | [] => (none, { c with place := .issueRdtick })
  | .issueSetc => (some (encode (.setc c.contrast)), { c with place := .issueRdtick })
  | .issueRdtick => (some (encode .rdtick), { c with place := .testTick })
  | .testTick =>
    if response = some true then (none, { c with place := .issueClrtick }) else (none, { c with place := .readHost })
  | .issueClrtick => (some (encode .clrtick), { c with place := .issueExec })
  | .issueExec => (some (encode (.exec c.cursor .data)), { c with place := .advanceCursor })
  | .advanceCursor => (none, { c with cursor := c.cursor + 1#8, place := .readHost })

end Sys2Proof.Machine
end

