-- ==== Sys2Proof/Machine/Flags.lean ====
section
/-! DEFINITION. The flags: the bits of `FAULT` (60_exceptions.md R221), and the derived bits `BUSY` (10_state.md R35)
and `PWM_RUN` (10_state.md R32). The block has no condition codes (R35). -/

namespace Sys2Proof.Machine

/-- The bit of `FAULT` that a cause sets: bit `n` for code `n` (60_exceptions.md R221). -/
def Cause.mask : Cause → BitVec 6
  | .illegalOp => 0b000001#6
  | .notOutput => 0b000010#6
  | .setup => 0b000100#6
  | .rate => 0b001000#6
  | .readStrobe => 0b010000#6
  | .reinit => 0b100000#6

/-- The code of a cause (60_exceptions.md R221). -/
def Cause.code : Cause → Nat
  | .illegalOp => 0
  | .notOutput => 1
  | .setup => 2
  | .rate => 3
  | .readStrobe => 4
  | .reinit => 5

/-- The cause's bit of `FAULT` is set. -/
def State.faulted (s : State) (c : Cause) : Bool := s.fault.getLsbD c.code

/-- `BUSY` is 1 exactly when `SEQ_PHASE != 0` or `INIT_STATE = Running` or `WAIT_ACTIVE = 1` (10_state.md R35). -/
def State.busy (s : State) : Bool :=
  decide (s.seq.phase ≠ .idle ∨ s.ini.status = .running ∨ s.waitActive = true)

/-- `PWM_RUN` is 1 exactly when `PWM_WGM = UpCount` and `PWM_COM = ClearOnMatchSetAtTop` and `PWM_CS = Undivided`
(10_state.md R32). -/
def Pwm.run (p : Pwm) : Bool :=
  decide (p.wgm = .upCount ∧ p.com = .clearOnMatchSetAtTop ∧ p.clk = .undivided)

end Sys2Proof.Machine
end

