-- ==== Sys2Proof/Machine/Ops.lean ====
section
/-! DEFINITION. The shared operations of 00_scope.md R11: `Step`, `Sleep`, appending to `TRACE`, `raise` (taking a
fault, 60_exceptions.md R222; there is no trap entry and no return, R227), `Commit` (40_pin_bus.md R103), `Latch`
(41_transaction_sequencer.md R126), and the bodies of a line write and a bus write (40_pin_bus.md R101, R102). -/

namespace Sys2Proof.Machine

/-- Append events to `TRACE`, oldest first. -/
def State.append (s : State) (es : List Event) : State := { s with trace := s.trace ++ es }

/-- `Step()`: `NOW` advances by a drawn `d >= 0` (00_scope.md R11). -/
def State.stepTime (s : State) : State :=
  { s with now := s.now + Config.freeTime s.draws, draws := s.draws + 1 }

/-- `Sleep(kind, T)`: append `DelayEvent(NOW, kind, T)` and advance `NOW` by a drawn `d >= T` (00_scope.md R11). -/
def State.sleep (s : State) (k : DelayKind) : State :=
  { s with
    trace := s.trace ++ [.delay s.now k (intervalOf k)]
    now := s.now + (intervalOf k + Config.freeTime s.draws)
    draws := s.draws + 1 }

/-- `raise F_X`: set the cause's bit of `FAULT` and append the `FaultEvent` with its detail; nothing else
(60_exceptions.md R222). -/
def State.raise (s : State) (c : Cause) (d : FaultDetail) : State :=
  { s with fault := s.fault ||| c.mask, trace := s.trace ++ [.fault s.now c d] }

/-- `raise` under a condition. -/
def State.raiseIf (s : State) (b : Bool) (c : Cause) (d : FaultDetail) : State :=
  if b then s.raise c d else s

/-- The latch event of the state's pins at `NOW` (41_transaction_sequencer.md R126). -/
def State.latchRecord (s : State) (o : Origin) : LatchRecord :=
  { time := s.now
    mode := modeOfLevel (s.pins.pin .mode)
    byte := s.pins.pinBus
    rw := s.pins.pin .rw
    reset := s.pins.pin .reset
    master := s.pins.pin .masterEn
    addressed := s.pins.addressed
    origin := o }

/-- The setup check fails: `NOW - T_STABLE < T_SETUP` (41_transaction_sequencer.md R130). -/
def State.setupViolated (s : State) : Bool := decide (s.now - s.arb.tStable < Config.tSetup)

/-- The rate check fails: `NOW < T_FREE` (41_transaction_sequencer.md R129). -/
def State.rateViolated (s : State) : Bool := decide (s.now < s.arb.tFree)

/-- `Latch(origin)` (41_transaction_sequencer.md R126): the setup and read-strobe checks, the latch event, and `T_FREE`
from the mode pin. -/
def State.latch (s : State) (o : Origin) : State :=
  let s1 := s.raiseIf s.setupViolated .setup .plain
  let s2 := s1.raiseIf (decide (s.pins.pin .rw = .high)) .readStrobe .plain
  let s3 := s2.append [.latch (s.latchRecord o)]
  { s3 with arb := { s3.arb with tFree := s.now + intervalOf (postDelayOf (modeOfLevel (s.pins.pin .mode))) } }

/-- The `PinEvent`s of a register change: one per single line whose direction or pin level changed, in designator order
(40_pin_bus.md R103). -/
def pinEvents (before after : Pins) (t : Nat) : List Event :=
  (allLines.filter fun l => decide (¬(after.dir l = before.dir l ∧ after.pin l = before.pin l))).map fun l =>
    .pin t l (after.dir l) (after.pin l)

/-- The `BusEvent` of a register change, if the bus direction or `PINBUS()` changed (40_pin_bus.md R103). -/
def busEvents (before after : Pins) (t : Nat) : List Event :=
  if after.busDir = before.busDir ∧ after.pinBus = before.pinBus then []
  else [.bus t after.busDir after.pinBus]

/-- `modeOrBus` of 40_pin_bus.md R103: the `MODE` pin or a bus pin changed. -/
def modeOrBusMoved (before after : Pins) : Bool :=
  decide (after.pin .mode ≠ before.pin .mode ∨ after.pinBus ≠ before.pinBus)

/-- `strobe` of 40_pin_bus.md R103: the `E` pin changed. -/
def strobeMoved (before after : Pins) : Bool := decide (after.pin .e ≠ before.pin .e)

/-- A falling edge of the `E` pin (40_pin_bus.md R103, 41_transaction_sequencer.md R127). -/
def fallingEdge (before after : Pins) : Bool := decide (before.pin .e = .high ∧ after.pin .e = .low)

/-- `T_STABLE <- NOW` under a condition (41_transaction_sequencer.md R130). -/
def State.stampStableIf (s : State) (b : Bool) : State :=
  if b then { s with arb := { s.arb with tStable := s.now } } else s

/-- `Latch(origin)` under a condition. -/
def State.latchIf (s : State) (b : Bool) (o : Origin) : State := if b then s.latch o else s

/-- `Commit(before, origin)` (40_pin_bus.md R103), on the state whose pin registers have just been changed. -/
def State.commit (s : State) (before : Pins) (o : Origin) : State :=
  let moved := modeOrBusMoved before s.pins
  let s1 := s.append (pinEvents before s.pins s.now ++ busEvents before s.pins s.now)
  let s2 := s1.raiseIf ((moved || strobeMoved before s.pins) && s.rateViolated) .rate .plain
  let s3 := s2.stampStableIf moved
  s3.latchIf (fallingEdge before s.pins) o

/-- Change the pin registers and `Commit`: the only way any rule changes a pin (40_pin_bus.md R105). -/
def State.changePins (s : State) (p : Pins) (o : Origin) : State := { s with pins := p }.commit s.pins o

/-- The body of `WRLINE l, v` without its hold and its `Step()` (40_pin_bus.md R101; `LineWrite` of
41_transaction_sequencer.md R122). On a line that is not an output the latch takes a drawn Level. -/
def State.lineWrite (s : State) (l : Line) (v : Level) (o : Origin) : State :=
  match s.pins.dir l with
  | .output => s.changePins (s.pins.setOut l v) o
  | .input =>
    let s1 := s.raise .notOutput (.designator (designatorOfLine l))
    { s1 with pins := s1.pins.setOut l (Config.freeLevel s1.draws), draws := s1.draws + 1 }

/-- The body of `WRBUS b` without its hold and its `Step()` (40_pin_bus.md R102; `BusWrite` of
41_transaction_sequencer.md R122). On a bus that is not an output the latch takes a drawn byte. -/
def State.busWrite (s : State) (b : Byte) (o : Origin) : State :=
  match s.pins.busDir with
  | .output => s.changePins (s.pins.setBusOut b) o
  | .input =>
    let s1 := s.raise .notOutput (.designator busDesignator)
    { s1 with pins := s1.pins.setBusOut (Config.freeByte s1.draws), draws := s1.draws + 1 }

/-- What an illegal op word does: `F_ILLEGAL_OP` with the word, after a `Step()`, and nothing else
(60_exceptions.md R223). DESIGN CHOICE: the rule does not order the two; the `Step()` comes first, so the event carries the
later `NOW` (notes/assumptions/21.md). -/
def State.illegalWord (s : State) (w : Word) : State := s.stepTime.raise .illegalOp (.word w)

end Sys2Proof.Machine
end

