-- ==== Sys2Proof/Machine/Contrast.lean ====
section
/-! DEFINITION. The PWM contrast controller: `PWMINIT`, `SETC`, the generator's step, and the contrast value of a period
(42_pwm_contrast.md R151 to R156). -/

namespace Sys2Proof.Machine

/-- `PWMINIT` on the generator: configure, set the period, restart the count with the output low; `DUTY` is not touched
(42_pwm_contrast.md R151). -/
def Pwm.configure (p : Pwm) : Pwm :=
  { p with
    wgm := .upCount
    com := .clearOnMatchSetAtTop
    clk := .undivided
    top := Config.pwmTopValue
    cnt := 0#10
    out := .low }

/-- `zext_10(DUTY)`, the compare value (42_pwm_contrast.md R157). -/
def Pwm.compare (p : Pwm) : BitVec 10 := p.duty.zeroExtend 10

/-- `GenStep` (42_pwm_contrast.md R153): nothing while `PWM_RUN = 0`; wrap and set at top; else clear on match and count
up. -/
def Pwm.clock (p : Pwm) : Pwm :=
  if p.run then
    if p.cnt = p.top then { p with cnt := 0#10, out := .high }
    else { p with out := if p.cnt = p.compare then .low else p.out, cnt := p.cnt + 1#10 }
  else p

/-- The generator's step in the machine (00_scope.md R7(3)). -/
def genStep (s : State) : State := { s with pwm := s.pwm.clock }

/-- `n` steps of the generator. -/
def Pwm.clocks : Nat → Pwm → Pwm
  | 0, p => p
  | n + 1, p => Pwm.clocks n p.clock

/-- In how many of the next `n` clock intervals `PWM_OUT` is 1, the interval now begun being the first; over the 1024
intervals of a period this is `H` (42_pwm_contrast.md R154). -/
def Pwm.highIntervals : Nat → Pwm → Nat
  | 0, _ => 0
  | n + 1, p => (if p.out = .high then 1 else 0) + Pwm.highIntervals n p.clock

/-- The generator clocks of one period, `PWM_TOP_VALUE + 1` (42_pwm_contrast.md R154). -/
def periodClocks : Nat := Config.pwmTopValue.toNat + 1

/-- `V_CONTRAST` of a period with `h` high clocks: `V_HIGH * H / 1024` (42_pwm_contrast.md R156). -/
def contrastVoltage (h : Nat) : Rat := Config.vHigh * h / periodClocks

/-- `V_CONTRAST` of the period that begins now, if `DUTY` is not written in it (42_pwm_contrast.md R156). -/
def Pwm.vContrast (p : Pwm) : Rat := contrastVoltage (p.highIntervals periodClocks)

/-- The body of `SETC level` (42_pwm_contrast.md R152). -/
def setcBody (v : Byte) (s : State) : State :=
  ({ s.stepTime with pwm := { s.stepTime.pwm with duty := v } }).append [.dutyWrite s.stepTime.now v]

/-- The body of `PWMINIT` (42_pwm_contrast.md R151). -/
def pwminitBody (s : State) : State := { s.stepTime with pwm := s.stepTime.pwm.configure }

/-- `SETC level` (42_pwm_contrast.md R152). -/
def execSetc (v : Byte) (s : State) : Host.Outcome State Fault Refusal := .next (setcBody v s)

/-- `PWMINIT` (42_pwm_contrast.md R151). -/
def execPwminit (s : State) : Host.Outcome State Fault Refusal := .next (pwminitBody s)

end Sys2Proof.Machine
end

