-- ==== Sys2Proof/Machine/PinBus.lean ====
section
/-! DEFINITION. The Pin/Bus Abstraction: `CFGDIR`, `WRLINE`, `WRBUS` (40_pin_bus.md R100 to R102). Each body takes the
origin of the change, `Raw` for a host operation and `Init` inside `INIT` (R103). The hold is the operation port's
(Agents.lean, notes/assumptions/9.md). -/

namespace Sys2Proof.Machine

/-- The body of `CFGDIR line, dir` (40_pin_bus.md R100). -/
def cfgdirBody (t : Target) (d : Direction) (o : Origin) (s : State) : State :=
  s.stepTime.changePins (s.stepTime.pins.setTargetDir t d) o

/-- The body of `WRLINE line, level` (40_pin_bus.md R101). -/
def wrlineBody (l : Line) (v : Level) (o : Origin) (s : State) : State := s.stepTime.lineWrite l v o

/-- The body of `WRBUS byte` (40_pin_bus.md R102). -/
def wrbusBody (b : Byte) (o : Origin) (s : State) : State := s.stepTime.busWrite b o

/-- `CFGDIR line, dir` issued by the host (40_pin_bus.md R100). -/
def execCfgdir (t : Target) (d : Direction) (s : State) : Host.Outcome State Fault Refusal :=
  if t.wellFormed then .next (cfgdirBody t d .raw s) else .fault .noSuchLine

/-- `WRLINE line, level` issued by the host (40_pin_bus.md R101). -/
def execWrline (l : Line) (v : Level) (s : State) : Host.Outcome State Fault Refusal :=
  if l.wellFormed then .next (wrlineBody l v .raw s) else .fault .noSuchLine

/-- `WRBUS byte` issued by the host (40_pin_bus.md R102). -/
def execWrbus (b : Byte) (s : State) : Host.Outcome State Fault Refusal := .next (wrbusBody b .raw s)

end Sys2Proof.Machine
end

