-- ==== Sys2Proof/Machine/TickFlag.lean ====
section
/-! DEFINITION. The tick flag: the tick timer's step, `RDTICK`, `CLRTICK` (44_tick_control_loop.md R200 to R202), and
the response channel (30_encoding.md R89). -/

namespace Sys2Proof.Machine

/-- The tick timer's step: `TICK <- 1`, nothing else (44_tick_control_loop.md R200). -/
def tickEvent (s : State) : State := { s with tick := true }

/-- `respond(b)`: the bit goes to the host on the response channel (00_scope.md R11). -/
def State.respond (s : State) (b : Bool) : State := { s with response := some b }

/-- The body of `RDTICK` (44_tick_control_loop.md R201). -/
def rdtickBody (s : State) : State := (s.stepTime.append [.tickRead s.stepTime.now s.tick]).respond s.tick

/-- The body of `CLRTICK` (44_tick_control_loop.md R202). -/
def clrtickBody (s : State) : State := { s.stepTime with tick := false }

/-- `RDTICK` (44_tick_control_loop.md R201). -/
def execRdtick (s : State) : Host.Outcome State Fault Refusal := .next (rdtickBody s)

/-- `CLRTICK` (44_tick_control_loop.md R202). -/
def execClrtick (s : State) : Host.Outcome State Fault Refusal := .next (clrtickBody s)

end Sys2Proof.Machine
end

