-- ==== Sys2Proof/Machine/Transaction.lean ====
section
/-! DEFINITION. The transaction sequencer: `EXEC`, `WRBYTE` and the six phases (41_transaction_sequencer.md R122 to
R124). Acceptance is one step, each phase is one later step of the sequencer (notes/assumptions/6.md). -/

namespace Sys2Proof.Machine

/-- Acceptance of a transaction: `SEQ_MODE <- mode; SEQ_PAYLOAD <- byte; SEQ_PHASE <- 1`
(41_transaction_sequencer.md R122). -/
def beginExec (b : Byte) (m : Mode) (s : State) : State :=
  { s with seq := { mode := m, payload := b, phase := .p1 } }

/-- `SEQ_PHASE <- p`. -/
def State.toPhase (s : State) (p : Phase) : State := { s with seq := { s.seq with phase := p } }

/-- The end of phase 6: `SEQ_PHASE <- 0`. `SEQ_MODE` and `SEQ_PAYLOAD` are unspecified from here on
(10_state.md R26; 93 V6), so they take free values (notes/assumptions/5.md). -/
def State.endTransaction (s : State) : State :=
  { s with
    seq := { mode := Config.freeMode s.draws, payload := Config.freeByte s.draws, phase := .idle }
    draws := s.draws + 1 }

/-- One phase of the transaction in flight (41_transaction_sequencer.md R122). -/
def phaseStep (s : State) : State :=
  match s.seq.phase with
  | .idle => s
  | .p1 => (s.stepTime.lineWrite .mode (levelOfMode s.seq.mode) .exec).toPhase .p2
  | .p2 => (s.stepTime.lineWrite .e .high .exec).toPhase .p3
  | .p3 => (s.stepTime.busWrite s.seq.payload .exec).toPhase .p4
  | .p4 => (s.sleep .setup).toPhase .p5
  | .p5 => (s.stepTime.lineWrite .e .low .exec).toPhase .p6
  | .p6 => (s.sleep (postDelayOf s.seq.mode)).endTransaction

/-- `EXEC byte, mode` (41_transaction_sequencer.md R122): accepted here, performed by `phaseStep`. -/
def execExec (b : Byte) (m : Mode) (s : State) : Host.Outcome State Fault Refusal := .next (beginExec b m s)

/-- `WRBYTE byte` is `EXEC byte, Data` (41_transaction_sequencer.md R124). -/
def execWrbyte (b : Byte) (s : State) : Host.Outcome State Fault Refusal := .next (beginExec b .data s)

end Sys2Proof.Machine
end

