-- ==== Sys2Proof/Machine/InitDelay.lean ====
section
/-! DEFINITION. The blocking delay `WAIT` and the initialization sequencer `INIT` (43_init_sequencer.md R180 to R185).
`INIT` is accepted by one step; each operation of its list, and the end of each of its ten steps, is one later step of
the sequencer (notes/assumptions/6.md, 8.md). -/

namespace Sys2Proof.Machine

/-- `WAIT code` up to the end of its delay: `WAIT_ACTIVE <- 1` and the `Sleep` (43_init_sequencer.md R182;
notes/assumptions/7.md). -/
def beginWait (k : DelayKind) (s : State) : State := { s with waitActive := true }.sleep k

/-- The end of a `WAIT`: `WAIT_ACTIVE <- 0` (43_init_sequencer.md R182). -/
def endWait (s : State) : State := { s with waitActive := false }

/-- The operations of each initialization step, in order (43_init_sequencer.md R181). Step 0 is no step. -/
def initOps (step : Fin 11) : List Instr :=
  match step.val with
  | 1 => [.cfgdir .bus .output, .wrbus 0x00#8]
  | 2 => [.cfgdir (.line .mode) .output, .cfgdir (.line .rw) .output, .cfgdir (.line .e) .output,
          .cfgdir (.line .contrastEn) .output, .wrline .mode .low, .wrline .rw .low, .wrline .e .low,
          .wrline .contrastEn .low]
  | 3 => [.pwminit, .setc Config.contrastInit]
  | 4 => [.wait .settle]
  | 5 => [.cfgdir (.line .reset) .output, .wrline .reset .high]
  | 6 => [.cfgdir (.line .masterEn) .output, .wrline .masterEn .high]
  | 7 => [.wrline .rw .low]
  | 8 => [.exec Config.initCmd1 .command]
  | 9 => [.exec Config.initCmd2 .command]
  | 10 => [.exec Config.initCmd3 .command]
  | _ => []

/-- Perform, or begin, an operation without any hold, with the given origin for its pin changes. `INIT` performs the
operations of its steps so, with origin `Init` (43_init_sequencer.md R180); `INIT` itself is in no list. -/
def perform (o : Origin) (i : Instr) (s : State) : State :=
  match i with
  | .cfgdir t d => cfgdirBody t d o s
  | .wrline l v => wrlineBody l v o s
  | .wrbus b => wrbusBody b o s
  | .exec b m => beginExec b m s
  | .wrbyte b => beginExec b .data s
  | .setc v => setcBody v s
  | .pwminit => pwminitBody s
  | .wait k => beginWait k s
  | .init => s
  | .rdtick => rdtickBody s
  | .clrtick => clrtickBody s

/-- The end of an initialization step: the next step begins, or after step 10 `INIT_STEP <- 0`, `INIT_STATE <- Ready`
and `InitDone(NOW)` (43_init_sequencer.md R180). -/
def endInitStep (s : State) : State :=
  if s.ini.step = 10 then { s with ini := { status := .ready, step := 0, op := 0 } }.append [.initDone s.now]
  else { s with ini := { s.ini with step := s.ini.step + 1, op := 0 } }

/-- One step of the initialization sequencer, while no transaction and no delay is in flight
(43_init_sequencer.md R180, R183). -/
def initStep (s : State) : State :=
  match (initOps s.ini.step)[s.ini.op]? with
  | some i => perform .init i { s with ini := { s.ini with op := s.ini.op + 1 } }
  | none => endInitStep s

/-- Acceptance of `INIT`: `INIT_STATE <- Running`, `INIT_STEP <- 1` (43_init_sequencer.md R180). -/
def beginInit (s : State) : State := { s with ini := { status := .running, step := 1, op := 0 } }

/-- `WAIT code` (43_init_sequencer.md R182). -/
def execWait (k : DelayKind) (s : State) : Host.Outcome State Fault Refusal := .next (beginWait k s)

/-- `INIT` (43_init_sequencer.md R180): begins the sequence, or raises `F_REINIT` and does nothing else if it has begun
before (R185). -/
def execInit (s : State) : Host.Outcome State Fault Refusal :=
  if s.ini.status = .notStarted then .next (beginInit s) else .next (s.raise .reinit .plain)

end Sys2Proof.Machine
end

