-- ==== Sys2Proof/Machine/Dispatch.lean ====
section
/-! DEFINITION. One arm per operation, each one direct call of its meaning. -/

namespace Sys2Proof.Machine

def exec (i : Instr) (s : State) : Host.Outcome State Fault Refusal :=
  match i with
  | .cfgdir target dir => Sys2Proof.Machine.execCfgdir target dir s
  | .wrline line level => Sys2Proof.Machine.execWrline line level s
  | .wrbus byte => Sys2Proof.Machine.execWrbus byte s
  | .exec byte mode => Sys2Proof.Machine.execExec byte mode s
  | .wrbyte byte => Sys2Proof.Machine.execWrbyte byte s
  | .setc level => Sys2Proof.Machine.execSetc level s
  | .pwminit => Sys2Proof.Machine.execPwminit s
  | .wait kind => Sys2Proof.Machine.execWait kind s
  | .init => Sys2Proof.Machine.execInit s
  | .rdtick => Sys2Proof.Machine.execRdtick s
  | .clrtick => Sys2Proof.Machine.execClrtick s

end Sys2Proof.Machine
end

