-- ==== Sys2Proof/Machine/Agents.lean ====
section
/-! DEFINITION. The agents of 00_scope.md R7 and whose turn it is: the operation port with its hold
(41_transaction_sequencer.md R132), the host, the sequencer, the generator, the tick timer, and the reset event. -/

namespace Sys2Proof.Machine

/-- The operation port accepts a word: the operation it decodes to, or `F_ILLEGAL_OP` (30_encoding.md R80,
60_exceptions.md R223). -/
def runWord (w : Word) (s : State) : Host.Outcome State Fault Refusal :=
  match decode w with
  | .ok i => exec i s
  | .error _ => .next (s.illegalWord w)

/-- A turn of the host, which is not held: it issues its next op word, or does something of its own, which takes a drawn
time (00_scope.md R8), or has nothing to issue and the block waits (70_reset_and_hazards.md R251). -/
def hostStep (s : State) : Host.Outcome State Fault Refusal :=
  match s.host with
  | .stream [] => .next s
  | .stream (w :: ws) => runWord w { s with host := .stream ws }
  | .loop c =>
    match c.turn s.response with
    | (some w, c') => runWord w { s with host := .loop c' }
    | (none, c') => .next { s with host := .loop c' }.stepTime

/-- A turn of the sequencer while `BUSY = 1`: the transaction in flight, else the running delay, else the next operation
of the initialization sequence (00_scope.md R7(2)). -/
def sequencerStep (s : State) : State :=
  if s.seq.phase ≠ .idle then phaseStep s
  else if s.waitActive then endWait s
  else if s.ini.status = .running then initStep s
  else s

/-- A turn of the one execution context: the sequencer while `BUSY = 1`, when the host is held, else the host
(41_transaction_sequencer.md R132). -/
def mainStep (s : State) : Host.Outcome State Fault Refusal :=
  if s.busy then .next (sequencerStep s) else hostStep s

/-- The reset event (70_reset_and_hazards.md R250): every piece of the block's state takes its reset value. The host,
the coming turns and the count of draws are not the block's (notes/assumptions/16.md). -/
def resetBlock (s : State) : State := { State.reset with draws := s.draws, turns := s.turns, host := s.host }

/-- One step: the agent whose turn it is moves (00_scope.md R7; notes/assumptions/2.md). -/
def turnStep (s : State) : Host.Outcome State Fault Refusal :=
  match s.turns with
  | [] => mainStep s
  | .main :: ts => mainStep { s with turns := ts }
  | .gen :: ts => .next (genStep { s with turns := ts })
  | .tick :: ts => .next (tickEvent { s with turns := ts })
  | .reset :: ts => .next (resetBlock { s with turns := ts })

end Sys2Proof.Machine
end

