-- ==== Sys2Proof/Machine/Step.lean ====
section
/-! DEFINITION. The step function, and how an instruction is put where the next step takes it from. -/

namespace Sys2Proof.Machine

/-- One step of the machine: the agent whose turn it is moves (00_scope.md R7). -/
def step (s : State) : Host.Outcome State Fault Refusal := turnStep s

/-- `s` with the op word of number `w` put at the head of the host's stream, so that the very next step accepts it: the
turn is the host's, and the block is not busy (30_encoding.md R80). On a state that is not busy, whose turn is the
host's and whose host is a stream, nothing else changes (notes/assumptions/1.md). -/
def State.withFetchWord (s : State) (nbits w : Nat) : State :=
  let rest : List Word := match s.host with
    | .stream ws => ws
    | .loop _ => []
  { s with
    host := .stream (BitVec.ofNat 16 (w % 2 ^ nbits) :: rest)
    turns := []
    seq := { s.seq with phase := .idle }
    waitActive := false
    ini := if s.ini.status = .running then { status := .notStarted, step := 0, op := 0 } else s.ini }

end Sys2Proof.Machine
end

