-- ==== Sys2Proof/Safety.lean ====
section
/-! DEFINITION. What counts as a safe run, and the invariants of the machine, in the terms the claims use. -/

namespace Sys2Proof.Machine

/-- No fault bit is set. A state with `FAULT != 0` is never a good final state (60_exceptions.md R224). -/
def State.faultFree (s : State) : Bool := decide (s.fault = 0#6)

/-- The block leaves no transaction's timing pending: `NOW` has reached `T_FREE`, and `T_STABLE` lies in the past
(41_transaction_sequencer.md R128). -/
def State.busFree (s : State) : Prop := s.arb.tFree ≤ s.now ∧ s.arb.tStable ≤ s.now

/-- The lines `EXEC` needs as outputs, `MODE`, `E` and the bus, are outputs (70_reset_and_hazards.md R254). -/
def State.execReady (s : State) : Prop :=
  s.pins.dir .mode = .output ∧ s.pins.dir .e = .output ∧ s.pins.busDir = .output

/-- The time of an event of the trace (10_state.md R36). -/
def Event.time : Event → Nat
  | .pin t _ _ _ => t
  | .bus t _ _ => t
  | .latch r => r.time
  | .delay t _ _ => t
  | .fault t _ _ => t
  | .tickRead t _ => t
  | .dutyWrite t _ => t
  | .initDone t => t

/-- The event is a latch event. -/
def Event.isLatch : Event → Bool
  | .latch _ => true
  | .pin _ _ _ _ => false
  | .bus _ _ _ => false
  | .delay _ _ _ => false
  | .fault _ _ _ => false
  | .tickRead _ _ => false
  | .dutyWrite _ _ => false
  | .initDone _ => false

/-- The event is a fault event of the cause. -/
def Event.isFault (c : Cause) : Event → Bool
  | .fault _ c' _ => decide (c' = c)
  | .latch _ => false
  | .pin _ _ _ _ => false
  | .bus _ _ _ => false
  | .delay _ _ _ => false
  | .tickRead _ _ => false
  | .dutyWrite _ _ => false
  | .initDone _ => false

/-- The time before which the last latch event of a trace forbids a change of `MODE`, `E` or the bus; 0 if there is no
latch event (41_transaction_sequencer.md R126, R129). -/
def freeAfter : List Event → Nat
  | [] => 0
  | .latch r :: es =>
    if es.any Event.isLatch then freeAfter es else r.time + intervalOf (postDelayOf r.mode)
  | .pin _ _ _ _ :: es => freeAfter es
  | .bus _ _ _ :: es => freeAfter es
  | .delay _ _ _ :: es => freeAfter es
  | .fault _ _ _ :: es => freeAfter es
  | .tickRead _ _ :: es => freeAfter es
  | .dutyWrite _ _ :: es => freeAfter es
  | .initDone _ :: es => freeAfter es

/-- INVARIANT. `INIT_STEP` is 0 exactly when `INIT_STATE` is not `Running` (10_state.md R31), and the model's operation
count is 0 then too. -/
def State.InitConsistent (s : State) : Prop :=
  (s.ini.status = .running ↔ s.ini.step ≠ 0) ∧ (s.ini.status ≠ .running → s.ini.op = 0)

/-- INVARIANT. At most one of a transaction and a `WAIT` is in flight (20_memory.md R69). -/
def State.OneInFlight (s : State) : Prop := s.waitActive = true → s.seq.phase = .idle

/-- INVARIANT. The trace is in order of time and ends no later than `NOW`; `T_STABLE` lies in the past
(10_state.md R28, R36). -/
def State.TimeOrdered (s : State) : Prop :=
  s.trace.Pairwise (fun a b => a.time ≤ b.time) ∧ (∀ e ∈ s.trace, e.time ≤ s.now) ∧ s.arb.tStable ≤ s.now

/-- INVARIANT. When phase 5 is about to lower `E`, the `MODE` pin and the bus have been stable for `T_SETUP`
(41_transaction_sequencer.md R135(a)). -/
def State.SetupHeld (s : State) : Prop :=
  s.arb.tStable ≤ s.now ∧ (s.seq.phase = .p5 → s.arb.tStable + Config.tSetup ≤ s.now)

/-- INVARIANT. A bit of `FAULT` is set exactly when the trace holds a fault event of its cause
(60_exceptions.md R222). -/
def State.FaultsRecorded (s : State) : Prop :=
  ∀ c : Cause, s.faulted c = true ↔ s.trace.any (Event.isFault c) = true

/-- INVARIANT. `T_FREE` is what the last latch event of the trace makes it (41_transaction_sequencer.md R126). -/
def State.FreeFromLatch (s : State) : Prop := s.arb.tFree = freeAfter s.trace

/-- INVARIANT. The generator is either as reset left it, apart from `DUTY`, or runs with the one period of
42_pwm_contrast.md R150 and R151. -/
def Pwm.Configured (p : Pwm) : Prop :=
  (p.run = true ∧ p.top = Config.pwmTopValue) ∨ p = { Pwm.reset with duty := p.duty }

end Sys2Proof.Machine
end

