-- ==== Sys2Proof/Certificates/Slice0/Obligations.lean ====
section
/-! DEFINITION. The statements for the provers, in the order of the spec's files: encoding, the step and the port, reset,
the pin operations, transactions, the generator, initialization and delay, the tick flag, faults, the reference host, and
the invariants. Nothing is proved here. -/

open Sys2Proof Sys2Proof.Machine

/-! ### Encoding (30_encoding.md) -/

/-- 30_encoding.md R91: every worked encoding of its table decodes to the operation beside it, and its illegal words are
rejected. -/
def Obligations.WorkedEncodingsDecode : Prop :=
  decode 0x1110#16 = .ok (.cfgdir .bus .output) ∧
  decode 0x1106#16 = .ok (.cfgdir (.line .mode) .output) ∧
  decode 0x1004#16 = .ok (.cfgdir (.line .e) .input) ∧
  decode 0x1120#16 = .ok (.cfgdir (.line (.cs 0)) .output) ∧
  decode 0x2104#16 = .ok (.wrline .e .high) ∧
  decode 0x2004#16 = .ok (.wrline .e .low) ∧
  decode 0x2102#16 = .ok (.wrline .reset .high) ∧
  decode 0x2103#16 = .ok (.wrline .masterEn .high) ∧
  decode 0x3000#16 = .ok (.wrbus 0x00#8) ∧
  decode 0x30A5#16 = .ok (.wrbus 0xA5#8) ∧
  decode 0x4039#16 = .ok (.exec 0x39#8 .command) ∧
  decode 0x403A#16 = .ok (.exec 0x3A#8 .command) ∧
  decode 0x4000#16 = .ok (.exec 0x00#8 .command) ∧
  decode 0x4107#16 = .ok (.exec 0x07#8 .data) ∧ encode (.wrbyte 0x07#8) = 0x4107#16 ∧
  decode 0x5018#16 = .ok (.setc 0x18#8) ∧
  decode 0x6000#16 = .ok .pwminit ∧
  decode 0x7003#16 = .ok (.wait .settle) ∧
  decode 0x8000#16 = .ok .init ∧
  decode 0x9000#16 = .ok .rdtick ∧
  decode 0xA000#16 = .ok .clrtick ∧
  decode 0x0000#16 = .error .opcode ∧
  decode 0x2110#16 = .error .designator ∧
  decode 0x3100#16 = .error .bitEight ∧
  decode 0x7004#16 = .error .delayCode ∧
  decode 0x8001#16 = .error .lowByte ∧
  decode 0x4239#16 = .error .reservedBits

/-- 30_encoding.md R81 to R88: the word of every well-formed operation decodes to that operation, the pseudo-operation
`WRBYTE byte` to the `EXEC byte, Data` it stands for. -/
def Obligations.DecodeInvertsEncode : Prop :=
  ∀ i : Instr, i.wellFormed = true → decode (encode i) = .ok i.core

/-- 30_encoding.md R90: a word the decoder accepts is the word of what it decodes to, which is a well-formed operation of
the ten rows of R83; so no two words mean the same operation. -/
def Obligations.EncodeInvertsDecode : Prop :=
  ∀ (w : Word) (i : Instr), decode w = .ok i → encode i = w ∧ i.wellFormed = true ∧ i.core = i

/-- 30_encoding.md R85: a word is illegal exactly when one of the rule's conditions holds, and then the port raises
`F_ILLEGAL_OP` and changes no register, no pin and no phase. That the event carries the `NOW` after the word's `Step()` is
the model's choice (notes/assumptions/21.md). -/
def Obligations.IllegalWordsAreExactlyTheRules : Prop :=
  ∀ w : Word,
    ((∃ why, decode w = .error why) ↔
      (w.toNat / 4096 = 0 ∨ 0xB ≤ w.toNat / 4096) ∨
      w.toNat / 512 % 8 ≠ 0 ∨
      (w.toNat / 256 % 2 = 1 ∧ w.toNat / 4096 ∈ [0x3, 0x5, 0x7, 0x6, 0x8, 0x9, 0xA]) ∨
      (w.toNat % 256 ≠ 0 ∧ w.toNat / 4096 ∈ [0x6, 0x8, 0x9, 0xA]) ∨
      (w.toNat / 4096 = 0x1 ∧
        ¬(w.toNat % 256 ≤ 0x06 ∨ w.toNat % 256 = 0x10 ∨
          (0x20 ≤ w.toNat % 256 ∧ w.toNat % 256 < 0x20 + Config.nCS))) ∨
      (w.toNat / 4096 = 0x2 ∧
        ¬(w.toNat % 256 ≤ 0x06 ∨ (0x20 ≤ w.toNat % 256 ∧ w.toNat % 256 < 0x20 + Config.nCS))) ∨
      (w.toNat / 4096 = 0x7 ∧ 3 < w.toNat % 256)) ∧
    ∀ s : State, (∃ why, decode w = .error why) →
      runWord w s = .next
        { s with
          now := s.now + Config.freeTime s.draws
          draws := s.draws + 1
          fault := s.fault ||| Cause.illegalOp.mask
          trace := s.trace ++ [.fault (s.now + Config.freeTime s.draws) .illegalOp (.word w)] }

/-! ### The step and the operation port -/

/-- 30_encoding.md R80, 60_exceptions.md R223: when the turn is the host's and the block is not busy, the step takes the
next op word from the host. If the word decodes to an operation, the step runs exactly that operation; if it is illegal,
the step raises `F_ILLEGAL_OP` and changes nothing else of the block, and the next word is at the port. A `main` turn at
the head of `turns` is used up. That the fault event carries the `NOW` after the word's `Step()` is the model's choice
(notes/assumptions/21.md). -/
def Obligations.StepRunsTheDecodedInstruction : Prop :=
  (∀ (s : State) (w : Word) (ws : List Word) (i : Instr),
    s.busy = false → s.host = .stream (w :: ws) → decode w = .ok i →
      (s.turns = [] → step s = exec i { s with host := .stream ws }) ∧
      (∀ ts, s.turns = .main :: ts → step s = exec i { s with turns := ts, host := .stream ws })) ∧
  (∀ (s : State) (w : Word) (ws : List Word) (why : Illegal),
    s.busy = false → s.host = .stream (w :: ws) → decode w = .error why →
      let t : State :=
        { s with
          host := .stream ws
          now := s.now + Config.freeTime s.draws
          draws := s.draws + 1
          fault := s.fault ||| Cause.illegalOp.mask
          trace := s.trace ++ [.fault (s.now + Config.freeTime s.draws) .illegalOp (.word w)] }
      (s.turns = [] → step s = .next t) ∧ (∀ ts, s.turns = .main :: ts → step s = .next { t with turns := ts }))

/-- 41_transaction_sequencer.md R132: while `BUSY = 1` the operation port accepts no word: the turn of the host and
sequencer is the sequencer's, the step is the sequencer's step, and the host, its words, the response channel and the
coming turns stay as they are. A `main` turn at the head of `turns` is used up. -/
def Obligations.PortHoldsTheHostWhileBusy : Prop :=
  ∀ s : State, s.busy = true →
    (s.turns = [] → step s = .next (sequencerStep s)) ∧
    (∀ ts, s.turns = .main :: ts → step s = .next (sequencerStep { s with turns := ts })) ∧
    (sequencerStep s).host = s.host ∧ (sequencerStep s).response = s.response ∧ (sequencerStep s).turns = s.turns

/-- 60_exceptions.md R222, 41_transaction_sequencer.md R134: no step stops the machine. Whatever the state and whoever's
turn it is, the step answers a next state: no fault of the block, no illegal word and no wait ends a run. -/
def Obligations.StepNeverStops : Prop := ∀ s : State, ∃ t, step s = .next t

/-- 70_reset_and_hazards.md R251: with nothing to issue and nothing in flight the block waits: the step leaves the state
as it is. That waiting takes no time is the model's choice (notes/assumptions/18.md). -/
def Obligations.IdleBlockWaits : Prop :=
  ∀ s : State, s.busy = false → s.host = .stream [] → s.turns = [] → step s = .next s

/-! ### Reset (10_state.md R40, 70_reset_and_hazards.md R250, R251) -/

/-- 10_state.md R40: after reset every piece of state has the value of the rule's table (`SEQ_MODE` and `SEQ_PAYLOAD`,
which the table leaves unspecified, are not constrained). -/
def Obligations.ResetValuesAreTheTable : Prop :=
  (∀ l : Line, State.reset.pins.dir l = .input ∧ State.reset.pins.out l = .low) ∧
  State.reset.pins.busDir = .input ∧ State.reset.pins.busOut = 0x00#8 ∧
  State.reset.seq.phase = .idle ∧ State.reset.arb = { tFree := 0, tStable := 0 } ∧ State.reset.waitActive = false ∧
  State.reset.ini.status = .notStarted ∧ State.reset.ini.step = 0 ∧
  State.reset.pwm.wgm = .off ∧ State.reset.pwm.com = .disconnected ∧ State.reset.pwm.clk = .stopped ∧
  State.reset.pwm.run = false ∧ State.reset.pwm.top = 0#10 ∧ State.reset.pwm.duty = 0x00#8 ∧
  State.reset.pwm.cnt = 0#10 ∧ State.reset.pwm.out = .low ∧
  State.reset.tick = false ∧ State.reset.fault = 0#6 ∧ State.reset.now = 0 ∧ State.reset.trace = []

/-- 70_reset_and_hazards.md R251: after reset the block is idle, no pin is driven, it waits for the host's first op word
and accepts it, and the pins read `CS[0]` = 1, every other line 0, bus 0x00. -/
def Obligations.PinsAfterReset : Prop :=
  State.reset.busy = false ∧ (∀ l : Line, State.reset.pins.dir l = .input) ∧ State.reset.pins.busDir = .input ∧
  (∃ t, step State.reset = .next t ∧ t.pins = State.reset.pins ∧ t.trace = [] ∧ t.busy = false) ∧
  (∀ w ws, step { State.reset with host := .stream (w :: ws) } = runWord w { State.reset with host := .stream ws }) ∧
  State.reset.pins.pinBus = 0x00#8 ∧ State.reset.pins.pin (.cs 0) = .high ∧
  ∀ l : Line, l.wellFormed = true → l ≠ .cs 0 → State.reset.pins.pin l = .low

/-- 70_reset_and_hazards.md R250: the reset event gives every piece of the block's state its reset value, from any state.
That the host, the coming turns and the count of draws stay (notes/assumptions/16.md), that `SEQ_MODE` and `SEQ_PAYLOAD`
become Command and 0x00 (notes/assumptions/5.md), that the operation count of `INIT` becomes 0 (notes/assumptions/8.md) and
that the response channel becomes empty (notes/assumptions/15.md) are the model's choices. -/
def Obligations.ResetEventRestoresEverything : Prop :=
  ∀ (s : State) (ts : List Turn), s.turns = .reset :: ts →
    step s = .next { State.reset with draws := s.draws, turns := ts, host := s.host }

/-! ### Pins and the bus (10_state.md R25, 40_pin_bus.md) -/

/-- 40_pin_bus.md R100 with R103: `CFGDIR` on a single line of the block. The whole next state: the direction, `NOW`, the
arbiter, the faults and the events; everything else is as before. -/
def Obligations.CfgdirLineResult : Prop :=
  ∀ (l : Line) (d : Direction) (s : State), l.wellFormed = true →
    let t := s.now + Config.freeTime s.draws
    let level := if d = .output then s.pins.out l else Config.ext l
    let moved := level ≠ s.pins.pin l
    let edge := l = .e ∧ s.pins.pin .e = .high ∧ level = .low
    exec (.cfgdir (.line l) d) s = .next
      { s with
        pins := s.pins.setDir l d
        now := t
        draws := s.draws + 1
        arb :=
          { tFree := if edge then t + intervalOf (postDelayOf (modeOfLevel (s.pins.pin .mode))) else s.arb.tFree
            tStable := if l = .mode ∧ moved then t else s.arb.tStable }
        fault := s.fault
          ||| (if (l = .mode ∨ l = .e) ∧ moved ∧ t < s.arb.tFree then Cause.rate.mask else 0)
          ||| (if edge ∧ t - s.arb.tStable < Config.tSetup then Cause.setup.mask else 0)
          ||| (if edge ∧ s.pins.pin .rw = .high then Cause.readStrobe.mask else 0)
        trace := s.trace
          ++ (if d ≠ s.pins.dir l ∨ moved then [.pin t l d level] else [])
          ++ (if (l = .mode ∨ l = .e) ∧ moved ∧ t < s.arb.tFree then [.fault t .rate .plain] else [])
          ++ (if edge ∧ t - s.arb.tStable < Config.tSetup then [.fault t .setup .plain] else [])
          ++ (if edge ∧ s.pins.pin .rw = .high then [.fault t .readStrobe .plain] else [])
          ++ (if edge then
                [.latch
                  { time := t, mode := modeOfLevel (s.pins.pin .mode), byte := s.pins.pinBus, rw := s.pins.pin .rw,
                    reset := s.pins.pin .reset, master := s.pins.pin .masterEn, addressed := s.pins.addressed,
                    origin := .raw }]
              else []) }

/-- 40_pin_bus.md R100(e) with R103: `CFGDIR BUS` changes the direction of all eight pins in one event, and never makes a
latch event. The whole next state. -/
def Obligations.CfgdirBusResult : Prop :=
  ∀ (d : Direction) (s : State),
    let t := s.now + Config.freeTime s.draws
    let byte := if d = .output then s.pins.busOut else Config.extBus
    let moved := byte ≠ s.pins.pinBus
    exec (.cfgdir .bus d) s = .next
      { s with
        pins := s.pins.setBusDir d
        now := t
        draws := s.draws + 1
        arb := { s.arb with tStable := if moved then t else s.arb.tStable }
        fault := s.fault ||| (if moved ∧ t < s.arb.tFree then Cause.rate.mask else 0)
        trace := s.trace
          ++ (if d ≠ s.pins.busDir ∨ moved then [.bus t d byte] else [])
          ++ (if moved ∧ t < s.arb.tFree then [.fault t .rate .plain] else []) }

/-- 40_pin_bus.md R101 with R103: `WRLINE` on a line that is an output. The whole next state. -/
def Obligations.WrlineOnOutputResult : Prop :=
  ∀ (l : Line) (v : Level) (s : State), l.wellFormed = true → s.pins.dir l = .output →
    let t := s.now + Config.freeTime s.draws
    let moved := v ≠ s.pins.out l
    let edge := l = .e ∧ s.pins.out .e = .high ∧ v = .low
    exec (.wrline l v) s = .next
      { s with
        pins := s.pins.setOut l v
        now := t
        draws := s.draws + 1
        arb :=
          { tFree := if edge then t + intervalOf (postDelayOf (modeOfLevel (s.pins.pin .mode))) else s.arb.tFree
            tStable := if l = .mode ∧ moved then t else s.arb.tStable }
        fault := s.fault
          ||| (if (l = .mode ∨ l = .e) ∧ moved ∧ t < s.arb.tFree then Cause.rate.mask else 0)
          ||| (if edge ∧ t - s.arb.tStable < Config.tSetup then Cause.setup.mask else 0)
          ||| (if edge ∧ s.pins.pin .rw = .high then Cause.readStrobe.mask else 0)
        trace := s.trace
          ++ (if moved then [.pin t l .output v] else [])
          ++ (if (l = .mode ∨ l = .e) ∧ moved ∧ t < s.arb.tFree then [.fault t .rate .plain] else [])
          ++ (if edge ∧ t - s.arb.tStable < Config.tSetup then [.fault t .setup .plain] else [])
          ++ (if edge ∧ s.pins.pin .rw = .high then [.fault t .readStrobe .plain] else [])
          ++ (if edge then
                [.latch
                  { time := t, mode := modeOfLevel (s.pins.pin .mode), byte := s.pins.pinBus, rw := s.pins.pin .rw,
                    reset := s.pins.pin .reset, master := s.pins.pin .masterEn, addressed := s.pins.addressed,
                    origin := .raw }]
              else []) }

/-- 40_pin_bus.md R101, 60_exceptions.md R221: `WRLINE` on a line that is not an output raises `F_NOT_OUTPUT` with the
line's designator; the latch of that line takes some Level, no pin changes, and nothing else does. -/
def Obligations.WrlineOnInputFaults : Prop :=
  ∀ (l : Line) (v : Level) (s : State), l.wellFormed = true → s.pins.dir l = .input →
    ∃ drawn : Level, ∃ n : Nat,
      let t := s.now + Config.freeTime s.draws
      exec (.wrline l v) s = .next
        { s with
          pins := s.pins.setOut l drawn
          now := t
          draws := n
          fault := s.fault ||| Cause.notOutput.mask
          trace := s.trace ++ [.fault t .notOutput (.designator (designatorOfLine l))] } ∧
      (∀ l', l'.wellFormed = true → (s.pins.setOut l drawn).pin l' = s.pins.pin l')

/-- 40_pin_bus.md R102 with R103: `WRBUS` on an output bus puts all eight bits at once and never makes a latch event. The
whole next state. -/
def Obligations.WrbusOnOutputResult : Prop :=
  ∀ (b : Byte) (s : State), s.pins.busDir = .output →
    let t := s.now + Config.freeTime s.draws
    let moved := b ≠ s.pins.busOut
    exec (.wrbus b) s = .next
      { s with
        pins := s.pins.setBusOut b
        now := t
        draws := s.draws + 1
        arb := { s.arb with tStable := if moved then t else s.arb.tStable }
        fault := s.fault ||| (if moved ∧ t < s.arb.tFree then Cause.rate.mask else 0)
        trace := s.trace
          ++ (if moved then [.bus t .output b] else [])
          ++ (if moved ∧ t < s.arb.tFree then [.fault t .rate .plain] else []) }

/-- 40_pin_bus.md R102, 60_exceptions.md R221: `WRBUS` on a bus that is not an output raises `F_NOT_OUTPUT` with
designator 0x10; the bus latch takes some byte, the bus pins keep their levels, and nothing else changes. -/
def Obligations.WrbusOnInputFaults : Prop :=
  ∀ (b : Byte) (s : State), s.pins.busDir = .input →
    ∃ drawn : Byte, ∃ n : Nat,
      let t := s.now + Config.freeTime s.draws
      exec (.wrbus b) s = .next
        { s with
          pins := s.pins.setBusOut drawn
          now := t
          draws := n
          fault := s.fault ||| Cause.notOutput.mask
          trace := s.trace ++ [.fault t .notOutput (.designator 0x10#8)] } ∧
      (s.pins.setBusOut drawn).pinBus = s.pins.pinBus

/-- 10_state.md R21, R22: a direction or latch write of a line of the block reads back, and leaves the direction and the
latch of every other line, and the bus, as they were. -/
def Obligations.LineRegistersAreSeparate : Prop :=
  ∀ (p : Pins) (l : Line) (d : Direction) (v : Level), l.wellFormed = true →
    (p.setDir l d).dir l = d ∧ (p.setDir l d).out l = p.out l ∧
    (p.setOut l v).out l = v ∧ (p.setOut l v).dir l = p.dir l ∧
    (p.setDir l d).busDir = p.busDir ∧ (p.setDir l d).busOut = p.busOut ∧
    (p.setOut l v).busDir = p.busDir ∧ (p.setOut l v).busOut = p.busOut ∧
    ∀ l', l' ≠ l →
      (p.setDir l d).dir l' = p.dir l' ∧ (p.setDir l d).out l' = p.out l' ∧
      (p.setOut l v).dir l' = p.dir l' ∧ (p.setOut l v).out l' = p.out l'

/-- 20_memory.md R66: repeating a `CFGDIR`, a `WRLINE` or a `WRBUS` to an output, or a `SETC`, with the same operands
leaves every register of the block as the first left it, and adds no pin, bus, latch or fault event. -/
def Obligations.RepeatedWritesChangeNothing : Prop :=
  ∀ (i : Instr) (s t u : State), i.wellFormed = true →
    ((∃ tg d, i = .cfgdir tg d) ∨ (∃ l v, i = .wrline l v ∧ s.pins.dir l = .output) ∨
      (∃ b, i = .wrbus b ∧ s.pins.busDir = .output) ∨ (∃ v, i = .setc v)) →
    exec i s = .next t → exec i t = .next u →
      u.pins = t.pins ∧ u.arb = t.arb ∧ u.fault = t.fault ∧ u.pwm = t.pwm ∧ u.seq = t.seq ∧ u.ini = t.ini ∧
      u.waitActive = t.waitActive ∧ u.tick = t.tick ∧
      ((∃ v, i = .setc v ∧ u.trace = t.trace ++ [.dutyWrite u.now v]) ∨ ((∀ v, i ≠ .setc v) ∧ u.trace = t.trace))

/-- An ill-formed `CFGDIR` or `WRLINE` term, which names a per-chip select the block does not have (10_state.md R20), and
no other term, stops; this stop is the model's choice (notes/assumptions/14.md) and no word reaches it. -/
def Obligations.OnlyMissingLinesStop : Prop :=
  ∀ (i : Instr) (s : State), (∃ t, exec i s = .next t) ↔ i.wellFormed = true

/-- 40_pin_bus.md R105, 20_memory.md R73, R74: what each operation may change in the step that accepts it, for all of them
at once. For `EXEC`, `WRBYTE` and `INIT` that step is acceptance only (the model's reading, notes/assumptions/6.md): the
pins, the arbiter, the faults and the generator, which 10_state.md R41 lists them as writing, are written by the
sequencer's later turns. Likewise `WAIT` ends in a later turn (notes/assumptions/7.md). That the response channel
keeps its bit over the operations other than `RDTICK` is the model's choice (notes/assumptions/15.md). -/
def Obligations.ExecFrame : Prop :=
  ∀ (i : Instr) (s t : State), exec i s = .next t →
    t.turns = s.turns ∧ t.host = s.host ∧
    (i ≠ .clrtick → t.tick = s.tick) ∧
    (i ≠ .rdtick → t.response = s.response) ∧
    ((∀ v, i ≠ .setc v) → t.pwm.duty = s.pwm.duty) ∧
    ((∀ v, i ≠ .setc v) → i ≠ .pwminit → t.pwm = s.pwm) ∧
    (i ≠ .pwminit → t.pwm = { s.pwm with duty := t.pwm.duty }) ∧
    ((∀ b m, i ≠ .exec b m) → (∀ b, i ≠ .wrbyte b) → t.seq = s.seq) ∧
    ((∀ k, i ≠ .wait k) → t.waitActive = s.waitActive) ∧
    (i ≠ .init → t.ini = s.ini) ∧
    ((∀ tg d, i ≠ .cfgdir tg d) → (∀ l v, i ≠ .wrline l v) → (∀ b, i ≠ .wrbus b) →
      t.pins = s.pins ∧ t.arb = s.arb ∧ (i ≠ .init → t.fault = s.fault)) ∧
    (∀ tg d, i = .cfgdir tg d → t.pins = s.pins.setTargetDir tg d) ∧
    (∀ l v, i = .wrline l v → ∃ x, t.pins = s.pins.setOut l x) ∧
    (∀ b, i = .wrbus b → ∃ x, t.pins = s.pins.setBusOut x)

/-! ### Transactions and the arbiter (41_transaction_sequencer.md) -/

/-- 41_transaction_sequencer.md R122, R124: in every state, acceptance of `EXEC byte, mode` writes `SEQ_MODE`,
`SEQ_PAYLOAD` and `SEQ_PHASE` and nothing else, and `WRBYTE byte` is `EXEC byte, Data`. That acceptance is a step of its
own is the model's reading (notes/assumptions/6.md). -/
def Obligations.ExecAndWrbyteAreAccepted : Prop :=
  ∀ (b : Byte) (m : Mode) (s : State),
    exec (.exec b m) s = .next { s with seq := { mode := m, payload := b, phase := .p1 } } ∧
    exec (.wrbyte b) s = exec (.exec b .data) s

/-- 41_transaction_sequencer.md R122, R135, R136, R137: an accepted `EXEC`, with `MODE`, `E` and the bus outputs, `RW` low
and no earlier latch edge's delay still running, is performed by six turns of the sequencer (one turn a phase is the
model's reading, notes/assumptions/6.md): exactly these events in this
order, one falling edge of `E`, one latch event with the payload and the mode, delays of the requested lengths, no fault,
every other line as it was, and at the end the next transaction is free to start. -/
def Obligations.ExecPerformsItsTransaction : Prop :=
  ∀ (b : Byte) (m : Mode) (s : State), s.execReady → s.pins.pin .rw = .low → s.busFree →
    ∃ a u : State, exec (.exec b m) s = .next a ∧ u = sequencerStep^[6] a ∧
      u.seq.phase = .idle ∧ u.fault = s.fault ∧ u.busFree ∧ u.execReady ∧
      u.pins.pin .mode = levelOfMode m ∧ u.pins.pinBus = b ∧ u.pins.pin .e = .low ∧
      (∀ l, u.pins.dir l = s.pins.dir l) ∧ (∀ l, l ≠ .mode → l ≠ .e → u.pins.out l = s.pins.out l) ∧
      u.ini = s.ini ∧ u.waitActive = s.waitActive ∧ u.pwm = s.pwm ∧ u.tick = s.tick ∧ u.response = s.response ∧
      u.turns = s.turns ∧ u.host = s.host ∧
      ∃ t1 t2 t3 t5 : Nat, s.now ≤ t1 ∧ t1 ≤ t2 ∧ t2 ≤ t3 ∧ t3 + Config.tSetup ≤ t5 ∧
        t5 + intervalOf (postDelayOf m) ≤ u.now ∧ u.arb.tFree = t5 + intervalOf (postDelayOf m) ∧
        u.trace = s.trace
          ++ (if levelOfMode m ≠ s.pins.out .mode then [.pin t1 .mode .output (levelOfMode m)] else [])
          ++ (if s.pins.out .e = .low then [.pin t2 .e .output .high] else [])
          ++ (if b ≠ s.pins.busOut then [.bus t3 .output b] else [])
          ++ [.delay t3 .setup Config.tSetup, .pin t5 .e .output .low,
              .latch
                { time := t5, mode := m, byte := b, rw := .low, reset := s.pins.pin .reset,
                  master := s.pins.pin .masterEn, addressed := s.pins.addressed, origin := .exec },
              .delay t5 (postDelayOf m) (intervalOf (postDelayOf m))]

/-- 41_transaction_sequencer.md R137, with R135(a), R126 and R131: any `EXEC` with `MODE`, `E` and the bus outputs,
whatever `RW` and the arbiter hold, makes exactly one latch event, whose byte is the payload and whose mode is the
transaction's; it raises no `F_NOT_OUTPUT` and no `F_SETUP`, and `F_READ_STROBE` exactly if `RW` is high. How many turns
that takes is left open (notes/assumptions/6.md). -/
def Obligations.ExecLatchesItsPayload : Prop :=
  ∀ (b : Byte) (m : Mode) (s : State), s.execReady →
    ∃ (a u : State) (n : Nat), exec (.exec b m) s = .next a ∧ u = sequencerStep^[n] a ∧ u.seq.phase = .idle ∧
      ∃ (new : List Event) (r : LatchRecord), u.trace = s.trace ++ new ∧ new.filter Event.isLatch = [.latch r] ∧
        r.byte = b ∧ r.mode = m ∧ r.rw = s.pins.pin .rw ∧ r.origin = .exec ∧
        r.time + intervalOf (postDelayOf m) ≤ u.now ∧ u.arb.tFree = r.time + intervalOf (postDelayOf m) ∧
        u.faulted .notOutput = s.faulted .notOutput ∧
        (s.arb.tStable ≤ s.now → u.faulted .setup = s.faulted .setup) ∧
        (u.faulted .readStrobe = true ↔ s.faulted .readStrobe = true ∨ s.pins.pin .rw = .high)

/-- 41_transaction_sequencer.md R124: `WRBYTE byte` is `EXEC byte, Data`, in its word and in its effect: it is accepted,
and when the sequencer is done with it its byte has been latched once, in mode `Data`, without a fault. -/
def Obligations.WrbytePerformsADataTransaction : Prop :=
  encode (.wrbyte 0x07#8) = 0x4107#16 ∧
  ∀ (b : Byte) (s : State),
    encode (.wrbyte b) = encode (.exec b .data) ∧ exec (.wrbyte b) s = exec (.exec b .data) s ∧
    (s.execReady → s.pins.pin .rw = .low → s.busFree →
      ∃ (a u : State) (n : Nat), exec (.wrbyte b) s = .next a ∧ u = sequencerStep^[n] a ∧ u.seq.phase = .idle ∧
        u.fault = s.fault ∧ u.busFree ∧
        ∃ (new : List Event) (r : LatchRecord), u.trace = s.trace ++ new ∧
          new.filter Event.isLatch = [.latch r] ∧ r.mode = .data ∧ r.byte = b ∧ r.origin = .exec)

/-- 41_transaction_sequencer.md R122, 95_test_vectors.md V41.4: an `EXEC` with `MODE`, `E` and the bus inputs raises
`F_NOT_OUTPUT` in phases 1, 2, 3 and 5, runs both delays and all six phases, moves no pin and makes no latch event. -/
def Obligations.ExecWithoutOutputsRunsAndFaults : Prop :=
  ∀ (b : Byte) (m : Mode) (s : State),
    s.pins.dir .mode = .input → s.pins.dir .e = .input → s.pins.busDir = .input →
    ∃ a u : State, exec (.exec b m) s = .next a ∧ u = sequencerStep^[6] a ∧
      u.seq.phase = .idle ∧ u.fault = s.fault ||| Cause.notOutput.mask ∧ u.arb = s.arb ∧
      (∀ l, u.pins.pin l = s.pins.pin l) ∧ u.pins.pinBus = s.pins.pinBus ∧
      ∃ t1 t2 t3 t5 : Nat,
        u.trace = s.trace ++
          [.fault t1 .notOutput (.designator 0x06#8), .fault t2 .notOutput (.designator 0x04#8),
           .fault t3 .notOutput (.designator 0x10#8), .delay t3 .setup Config.tSetup,
           .fault t5 .notOutput (.designator 0x04#8), .delay t5 (postDelayOf m) (intervalOf (postDelayOf m))]

/-- 10_state.md R27: each turn of the sequencer while a transaction is in flight advances `SEQ_PHASE` by exactly 1, from 6
to 0, whatever faults arise; a turn in phase 0 leaves it or begins a transaction with phase 1; and no step of the
generator or the tick timer changes it. That each phase is one turn, and acceptance another, is the model's reading
(notes/assumptions/6.md). -/
def Obligations.PhaseAdvancesByOne : Prop :=
  ∀ s t : State, step s = .next t →
    ((s.turns = [] ∨ (∃ ts, s.turns = .main :: ts)) →
      (s.seq.phase = .idle → t.seq.phase = .idle ∨ t.seq.phase = .p1) ∧
      (s.seq.phase = .p1 → t.seq.phase = .p2) ∧ (s.seq.phase = .p2 → t.seq.phase = .p3) ∧
      (s.seq.phase = .p3 → t.seq.phase = .p4) ∧ (s.seq.phase = .p4 → t.seq.phase = .p5) ∧
      (s.seq.phase = .p5 → t.seq.phase = .p6) ∧ (s.seq.phase = .p6 → t.seq.phase = .idle)) ∧
    (∀ ts, s.turns = .gen :: ts ∨ s.turns = .tick :: ts → t.seq = s.seq)

/-- 41_transaction_sequencer.md R125: exactly the chips whose per-chip select is high while the master-enable line is high
are addressed; in the reference configuration, with `CS[0]` never configured, that is all chips or none; and with one
select line per chip the same function selects single chips. -/
def Obligations.AddressedChips : Prop :=
  (∀ (p : Pins) (c : Nat),
    c ∈ p.addressed ↔
      c < Config.nChips ∧ Config.grounded = .low ∧ p.pin .masterEn = .high ∧ p.pin (.cs (Config.csMap c)) = .high) ∧
  (∀ p : Pins, p.dir (.cs 0) = .input →
    (p.pin .masterEn = .high → p.addressed = List.range Config.nChips) ∧ (p.pin .masterEn = .low → p.addressed = [])) ∧
  (∀ (n : Nat) (select : Nat → Level) (c : Nat),
    c ∈ addressedChips n (fun k => k) .high select ↔ c < n ∧ select c = .high)

/-- 41_transaction_sequencer.md R127: in every step other than a reset, a latch event is appended exactly when the `E` pin
falls, and then exactly one, whatever made the edge; and an `EXEC` with `E` an output makes exactly one. -/
def Obligations.LatchExactlyAtFallingEdges : Prop :=
  (∀ s t : State, step s = .next t → (∀ ts, s.turns ≠ .reset :: ts) →
    ∃ new : List Event, t.trace = s.trace ++ new ∧
      new.countP Event.isLatch = if s.pins.pin .e = .high ∧ t.pins.pin .e = .low then 1 else 0) ∧
  (∀ (b : Byte) (m : Mode) (s : State), s.pins.dir .e = .output →
    ∃ (a : State) (n : Nat) (new : List Event), exec (.exec b m) s = .next a ∧
      (sequencerStep^[n] a).seq.phase = .idle ∧ (sequencerStep^[n] a).trace = s.trace ++ new ∧
      new.countP Event.isLatch = 1)

/-- 41_transaction_sequencer.md R135(a): phase 5 of a transaction, in every state that meets the invariant `SetupHeld`,
raises no `F_SETUP`, whatever the generator, the tick timer and the draws do meanwhile. -/
def Obligations.PhaseFiveNeverBreaksSetup : Prop :=
  ∀ s : State, s.SetupHeld → s.seq.phase = .p5 → (phaseStep s).faulted .setup = s.faulted .setup

/-! ### The trace (10_state.md R36, 40_pin_bus.md R103) -/

/-- 40_pin_bus.md R103, 00_scope.md R9: in every step other than a reset, the trace gains a `PinEvent` for exactly the
lines whose direction or pin level changed, with the new direction and level at the new `NOW`, and a `BusEvent` exactly
when the bus direction or the byte on the bus pins changed. -/
def Obligations.TraceRecordsEveryPinChange : Prop :=
  ∀ s t : State, step s = .next t → (∀ ts, s.turns ≠ .reset :: ts) →
    ∃ new : List Event, t.trace = s.trace ++ new ∧
      (∀ n l d v, Event.pin n l d v ∈ new ↔
        l.wellFormed = true ∧ n = t.now ∧ d = t.pins.dir l ∧ v = t.pins.pin l ∧
          ¬(t.pins.dir l = s.pins.dir l ∧ t.pins.pin l = s.pins.pin l)) ∧
      (∀ n d b, Event.bus n d b ∈ new ↔
        n = t.now ∧ d = t.pins.busDir ∧ b = t.pins.pinBus ∧
          ¬(t.pins.busDir = s.pins.busDir ∧ t.pins.pinBus = s.pins.pinBus))

/-- 10_state.md R36, 60_exceptions.md R222, 00_scope.md R8: in every step other than a reset the trace is only appended
to, no bit of `FAULT` is cleared, `NOW` does not go back, and `INIT_STATE` does not return to `NotStarted`. -/
def Obligations.StepsOnlyAddToTheRecord : Prop :=
  ∀ s t : State, step s = .next t → (∀ ts, s.turns ≠ .reset :: ts) →
    s.trace <+: t.trace ∧ (∀ c, s.faulted c = true → t.faulted c = true) ∧ s.now ≤ t.now ∧
    (s.ini.status ≠ .notStarted → t.ini.status ≠ .notStarted)

/-! ### The pulse generator (42_pwm_contrast.md) -/

/-- 42_pwm_contrast.md R151: `PWMINIT` in every state: the whole next state. `DUTY` and every line are as before, and the
generator runs. -/
def Obligations.PwminitResult : Prop :=
  ∀ s : State,
    exec .pwminit s = .next
      { s with
        now := s.now + Config.freeTime s.draws
        draws := s.draws + 1
        pwm :=
          { wgm := .upCount, com := .clearOnMatchSetAtTop, clk := .undivided, top := Config.pwmTopValue,
            duty := s.pwm.duty, cnt := 0#10, out := .low } } ∧
    ∀ t, exec .pwminit s = .next t → t.pwm.run = true

/-- 42_pwm_contrast.md R152: `SETC level` in every state, the generator running or not: the whole next state. -/
def Obligations.SetcResult : Prop :=
  ∀ (v : Byte) (s : State),
    exec (.setc v) s = .next
      { s with
        now := s.now + Config.freeTime s.draws
        draws := s.draws + 1
        pwm := { s.pwm with duty := v }
        trace := s.trace ++ [.dutyWrite (s.now + Config.freeTime s.draws) v] }

/-- 42_pwm_contrast.md R153: a generator clock, in every state: nothing while `PWM_RUN = 0`; else wrap and set at top;
else clear on match and count up. It changes only `CNT` and `PWM_OUT`. -/
def Obligations.GeneratorStepResult : Prop :=
  ∀ (s : State) (ts : List Turn), s.turns = .gen :: ts →
    step s = .next
      { s with
        turns := ts
        pwm :=
          if s.pwm.run = false then s.pwm
          else if s.pwm.cnt = s.pwm.top then { s.pwm with cnt := 0#10, out := .high }
          else
            { s.pwm with
              out := if s.pwm.cnt.toNat = s.pwm.duty.toNat then .low else s.pwm.out
              cnt := BitVec.ofNat 10 (s.pwm.cnt.toNat + 1) } }

/-- 42_pwm_contrast.md R154: in a period that begins by the wrap, `PWM_OUT` is 1 in the intervals 0 to `DUTY` and 0 in the
others, so it is high for exactly `DUTY + 1` of 1024 clocks, and the period ends as it began, so every later one is the
same. -/
def Obligations.SteadyPeriodWaveform : Prop :=
  ∀ p : Pwm, p.run = true → p.top = Config.pwmTopValue → p.cnt = 0#10 → p.out = .high →
    (∀ k, k < 1024 → (p.clocks k).cnt.toNat = k ∧ ((p.clocks k).out = .high ↔ k ≤ p.duty.toNat)) ∧
    p.highIntervals 1024 = p.duty.toNat + 1 ∧ p.clocks 1024 = p

/-- 42_pwm_contrast.md R155, R156: `V_CONTRAST` of a period with `H` high clocks is `V_HIGH * H / 1024`; in steady state
`H` is `DUTY + 1`, strictly increasing in `DUTY`, 1 of 1024 at `DUTY = 0x00` and 256 of 1024 at `DUTY = 0xFF`, 8 more for
a contrast step, and never none or all. -/
def Obligations.ContrastValueOfAPeriod : Prop :=
  (∀ h : Nat, contrastVoltage h = Config.vHigh * h / 1024) ∧
  ∀ p : Pwm, p.run = true → p.top = Config.pwmTopValue → p.cnt = 0#10 → p.out = .high →
    p.vContrast = Config.vHigh * (p.duty.toNat + 1 : Nat) / 1024 ∧
    p.highIntervals 1024 = p.duty.toNat + 1 ∧
    (p.duty = 0x00#8 → p.highIntervals 1024 = 1) ∧ (p.duty = 0xFF#8 → p.highIntervals 1024 = 256) ∧
    1 ≤ p.highIntervals 1024 ∧ p.highIntervals 1024 ≤ 256 ∧
    ∀ d : Byte,
      (p.duty.toNat < d.toNat → p.highIntervals 1024 < Pwm.highIntervals 1024 { p with duty := d }) ∧
      (d.toNat = p.duty.toNat + Config.contrastStep.toNat →
        Pwm.highIntervals 1024 { p with duty := d } = p.highIntervals 1024 + 8)

/-- 42_pwm_contrast.md R158: a `SETC` in mid-period. A steady period at `d1` runs for `c` clocks, then `DUTY` becomes
`d2`: the period has `H = d1 + 1` if the output was already 0, `d2 + 1` if the match is still to come, and 1024 if it is
already behind; the period after it is steady at `d2`. -/
def Obligations.MidPeriodSetc : Prop :=
  ∀ (p : Pwm) (c : Nat) (d2 : Byte), p.run = true → p.top = Config.pwmTopValue → p.cnt = 0#10 → p.out = .high →
    c < 1024 →
    let q : Pwm := { p.clocks c with duty := d2 }
    let h := p.highIntervals c + q.highIntervals (1024 - c)
    q.cnt.toNat = c ∧ (q.out = .low ↔ p.duty.toNat < c) ∧
    (q.out = .low → h = p.duty.toNat + 1) ∧
    (q.out = .high → c ≤ d2.toNat → h = d2.toNat + 1) ∧
    (q.out = .high → d2.toNat < c → h = 1024) ∧
    (q.clocks (1024 - c)).highIntervals 1024 = d2.toNat + 1 ∧
    (q.clocks (1024 - c)).clocks 1024 = q.clocks (1024 - c)

/-- 42_pwm_contrast.md R159: after `PWMINIT` the output stays 0 for the first 1024 clocks whatever `DUTY` holds, goes to 1
on the 1024th step, and is steady from then on. -/
def Obligations.FirstPeriodIsLow : Prop :=
  ∀ s t : State, exec .pwminit s = .next t →
    t.pwm.cnt = 0#10 ∧ (∀ k, k < 1024 → (t.pwm.clocks k).out = .low) ∧
    (t.pwm.clocks 1023).cnt = 1023#10 ∧ (t.pwm.clocks 1024).out = .high ∧ (t.pwm.clocks 1024).cnt = 0#10 ∧
    (t.pwm.clocks 1024).duty = s.pwm.duty ∧ (t.pwm.clocks 1024).clocks 1024 = t.pwm.clocks 1024

/-! ### Delay and initialization (43_init_sequencer.md) -/

/-- 43_init_sequencer.md R182: `WAIT code` in every state: the `DelayEvent` with the code's interval, `NOW` at least that
much later, `WAIT_ACTIVE` 1 until the sequencer's next turn ends the delay, and nothing else. That the delay passes in the
step of acceptance is the model's choice (notes/assumptions/7.md). -/
def Obligations.WaitResult : Prop :=
  ∀ (k : DelayKind) (s : State),
    ∃ t, exec (.wait k) s = .next t ∧ s.now + intervalOf k ≤ t.now ∧
      t = { s with
              waitActive := true
              now := t.now
              draws := t.draws
              trace := s.trace ++ [.delay s.now k (intervalOf k)] } ∧
      t.busy = true ∧ (s.seq.phase = .idle → sequencerStep t = { t with waitActive := false })

/-- 30_encoding.md R86: each delay code requests the interval of its named parameter. -/
def Obligations.DelayCodesRequestTheirIntervals : Prop :=
  decode 0x7000#16 = .ok (.wait .setup) ∧ intervalOf .setup = Config.tSetup ∧
  decode 0x7001#16 = .ok (.wait .postData) ∧ intervalOf .postData = Config.tPostData ∧
  decode 0x7002#16 = .ok (.wait .postCmd) ∧ intervalOf .postCmd = Config.tPostCmd ∧
  decode 0x7003#16 = .ok (.wait .settle) ∧ intervalOf .settle = Config.tSettle ∧
  ∀ c : Nat, 4 ≤ c → c < 256 → decode (BitVec.ofNat 16 (0x7000 + c)) = .error .delayCode

/-- 43_init_sequencer.md R180, R185: `INIT` in the state `NotStarted` begins step 1 and makes the block busy; in any other
state it raises `F_REINIT` and does nothing else. While `Running` the host is held, and only a reset brings `NotStarted`
back. That acceptance is a step that takes no time and performs nothing, that `F_REINIT` takes no time
(notes/assumptions/6.md), and the operation count 0 (notes/assumptions/8.md) are the model's reading. -/
def Obligations.InitBeginsOnce : Prop :=
  (∀ s : State,
    (s.ini.status = .notStarted →
      exec .init s = .next { s with ini := { status := .running, step := 1, op := 0 } } ∧
      ∀ t, exec .init s = .next t → t.busy = true) ∧
    (s.ini.status ≠ .notStarted →
      exec .init s = .next
        { s with fault := s.fault ||| Cause.reinit.mask, trace := s.trace ++ [.fault s.now .reinit .plain] }) ∧
    (s.ini.status = .running → s.busy = true)) ∧
  ∀ s t : State, step s = .next t → (∀ ts, s.turns ≠ .reset :: ts) → s.ini.status ≠ .notStarted →
    t.ini.status ≠ .notStarted

/-- 43_init_sequencer.md R180 to R186, 70_reset_and_hazards.md R259: `INIT` with the lines and the bus as reset leaves them
and nothing in flight is accepted, and after a number of turns of the sequencer it is `Ready`: the end state of R186, no
fault, exactly the three Command transactions of R184 with their bytes in order, no less time than R260 says, the settle
delay directly after step 3's contrast write and over before `RESET` rises and before any latch event, and `InitDone(NOW)`
as the last event. How many turns that takes is left open (notes/assumptions/6.md); the operation count 0
before and after is the model's (notes/assumptions/8.md). -/
def Obligations.InitEndsReady : Prop :=
  ∀ s : State, s.pins = Pins.reset → s.ini = { status := .notStarted, step := 0, op := 0 } → s.busy = false →
    s.busFree →
    ∃ (a u : State) (n : Nat), exec .init s = .next a ∧ u = sequencerStep^[n] a ∧
      u.ini = { status := .ready, step := 0, op := 0 } ∧ u.seq.phase = .idle ∧ u.busy = false ∧ u.fault = s.fault ∧
      u.busFree ∧
      (∀ l, l ∈ [Line.mode, .rw, .e, .contrastEn, .reset, .masterEn] → u.pins.dir l = .output) ∧
      u.pins.dir .led = .input ∧ u.pins.dir (.cs 0) = .input ∧ u.pins.busDir = .output ∧
      (∀ l, l ∈ [Line.mode, .rw, .e, .contrastEn] → u.pins.out l = .low) ∧
      u.pins.out .reset = .high ∧ u.pins.out .masterEn = .high ∧ u.pins.busOut = 0x00#8 ∧
      u.pwm.duty = Config.contrastInit ∧ u.pwm.run = true ∧ u.pwm.top = Config.pwmTopValue ∧
      u.pins.addressed = List.range Config.nChips ∧
      s.now + Config.tSettle + 3 * (Config.tSetup + Config.tPostCmd) ≤ u.now ∧
      ∃ (new : List Event) (r1 r2 r3 : LatchRecord), u.trace = s.trace ++ new ∧
        new.filter Event.isLatch = [.latch r1, .latch r2, .latch r3] ∧
        [r1.byte, r2.byte, r3.byte] = [0x39#8, 0x3A#8, 0x00#8] ∧
        (∀ r, r ∈ [r1, r2, r3] →
          r.mode = .command ∧ r.rw = .low ∧ r.reset = .high ∧ r.master = .high ∧ r.origin = .exec) ∧
        r1.time + Config.tPostCmd ≤ r2.time ∧ r2.time + Config.tPostCmd ≤ r3.time ∧
        u.arb.tFree = r3.time + Config.tPostCmd ∧
        ∃ (pre mid post : List Event) (td tr : Nat),
          new = pre ++ [.dutyWrite td Config.contrastInit, .delay td .settle Config.tSettle] ++ mid
            ++ [.pin tr .reset .output .high] ++ post ++ [.initDone u.now] ∧
          td + Config.tSettle ≤ tr ∧
          ∀ e ∈ pre ++ mid, e.isLatch = false ∧ ∀ t d, e ≠ .pin t .reset d .high

/-- 10_state.md R30, R31: in every step other than a reset, from a state that meets the invariant `InitConsistent`,
`INIT_STEP` stays, goes up by 1, or goes from 10 to 0 as the block becomes `Ready`, and it leaves 0 only as the block goes
from `NotStarted` to `Running`. -/
def Obligations.InitStepAdvancesByOne : Prop :=
  ∀ s t : State, s.InitConsistent → step s = .next t → (∀ ts, s.turns ≠ .reset :: ts) →
    t.ini.step = s.ini.step ∨
    (t.ini.step.val = s.ini.step.val + 1 ∧
      (s.ini.step = 0 → s.ini.status = .notStarted ∧ t.ini.status = .running)) ∨
    (s.ini.step = 10 ∧ t.ini.step = 0 ∧ s.ini.status = .running ∧ t.ini.status = .ready)

/-! ### The tick flag (44_tick_control_loop.md) -/

/-- 44_tick_control_loop.md R200: a tick event, in every state, sets `TICK` and changes nothing else. -/
def Obligations.TickEventResult : Prop :=
  ∀ (s : State) (ts : List Turn), s.turns = .tick :: ts → step s = .next { s with tick := true, turns := ts }

/-- 44_tick_control_loop.md R201: `RDTICK` in every state returns `TICK`, records it, and leaves it as it is. -/
def Obligations.RdtickResult : Prop :=
  ∀ s : State,
    exec .rdtick s = .next
      { s with
        now := s.now + Config.freeTime s.draws
        draws := s.draws + 1
        response := some s.tick
        trace := s.trace ++ [.tickRead (s.now + Config.freeTime s.draws) s.tick] }

/-- 44_tick_control_loop.md R202: `CLRTICK` in every state clears `TICK` and changes nothing else but `NOW`. -/
def Obligations.ClrtickResult : Prop :=
  ∀ s : State,
    exec .clrtick s = .next
      { s with now := s.now + Config.freeTime s.draws, draws := s.draws + 1, tick := false }

/-! ### The reference host (44_tick_control_loop.md R204 to R212) -/

/-- 42_pwm_contrast.md R161: the contrast level after `N` `+` characters is `(initial + 8 N) mod 256`. -/
def Obligations.ContrastLevelAfterIncrements : Prop :=
  ∀ (n : Nat) (c : Byte), (contrastAfter n c).toNat = (c.toNat + 8 * n) % 256

/-- 44_tick_control_loop.md R205: once per iteration the reference host takes at most one byte. A byte that is there is
echoed unmodified, and if it is `+` the contrast goes up by 8 modulo 256 and the next operation writes it to `DUTY`; no
other byte has any other effect, and with no byte nothing is echoed. The transport's answers as lists are the model's
choice (notes/assumptions/17.md). -/
def Obligations.LoopServesAHostByte : Prop :=
  (∀ (s : State) (c : ControlLoop) (b : Byte) (bs : List (Option Byte)),
    s.host = .loop c → c.place = .readHost → c.inbox = some b :: bs → s.busy = false → s.turns = [] →
    ∃ t, step s = .next t ∧ t.pins = s.pins ∧ t.pwm = s.pwm ∧ t.trace = s.trace ∧ t.fault = s.fault ∧
      (b ≠ 0x2B#8 →
        t.host = .loop { c with inbox := bs, sent := c.sent ++ [.byte b], place := .issueRdtick }) ∧
      (b = 0x2B#8 →
        t.host = .loop { c with
                            inbox := bs, sent := c.sent ++ [.byte b], contrast := c.contrast + 8#8,
                            place := .issueSetc } ∧
        ∃ u, step t = .next u ∧ u.pwm = { s.pwm with duty := c.contrast + 8#8 } ∧ u.pins = s.pins ∧
          u.host = .loop { c with
                              inbox := bs, sent := c.sent ++ [.byte b], contrast := c.contrast + 8#8,
                              place := .issueRdtick })) ∧
  (∀ (s : State) (c : ControlLoop),
    s.host = .loop c → c.place = .readHost → (c.inbox = [] ∨ ∃ bs, c.inbox = none :: bs) → s.busy = false →
    s.turns = [] →
    ∃ t, step s = .next t ∧ t.pins = s.pins ∧ t.pwm = s.pwm ∧ t.trace = s.trace ∧ t.fault = s.fault ∧
      t.host = .loop { c with inbox := c.inbox.tail, place := .issueRdtick })

/-- 44_tick_control_loop.md R206, R210: when the reference host comes to the tick flag and it is set, eleven turns later
the flag is clear, the trace has gained the read of the flag, exactly one latch event, in mode `Data` with the cursor's
value before the increment, and then the short delay, the cursor has advanced by 1 modulo 256, and the host is about to
read its next byte and has taken none; no fault is raised, and at least `T_SETUP + T_POST_DATA` has passed (R209). The number of turns is the model's (notes/assumptions/6.md, 17.md). -/
def Obligations.LoopServicesOneTick : Prop :=
  ∀ (s : State) (c : ControlLoop),
    s.host = .loop c → c.place = .issueRdtick → s.busy = false → s.turns = [] → s.tick = true →
    s.execReady → s.pins.pin .rw = .low → s.busFree →
    ∃ u, Host.Core.run core 11 s = .next u ∧
      u.host = .loop { c with cursor := c.cursor + 1#8, place := .readHost } ∧ u.tick = false ∧ u.busy = false ∧
      u.fault = s.fault ∧ u.busFree ∧ s.now + Config.tSetup + Config.tPostData ≤ u.now ∧
      ∃ (n : Nat) (mid : List Event) (r : LatchRecord),
        u.trace = s.trace ++ [.tickRead n true] ++ mid ++ [.latch r, .delay r.time .postData Config.tPostData] ∧
        mid.any Event.isLatch = false ∧ r.mode = .data ∧ r.byte = c.cursor ∧ r.origin = .exec

/-- 44_tick_control_loop.md R206: when the tick flag is clear, the reference host goes back to its next byte after two
turns without a transaction and without moving the cursor. The number of turns is the model's
(notes/assumptions/17.md). -/
def Obligations.LoopPollsAgainWithoutATick : Prop :=
  ∀ (s : State) (c : ControlLoop),
    s.host = .loop c → c.place = .issueRdtick → s.busy = false → s.turns = [] → s.tick = false →
    ∃ u, Host.Core.run core 2 s = .next u ∧ u.host = .loop { c with place := .readHost } ∧ u.pins = s.pins ∧
      u.seq = s.seq ∧ u.fault = s.fault ∧ ∃ n, u.trace = s.trace ++ [.tickRead n false]

/-- 44_tick_control_loop.md R207, 60_exceptions.md R228: when the transport never becomes configured, the reference host
waits for ever: however many turns go by, it is where it was, it has issued no operation, and no fault is raised. That an
empty list of answers is a bit that stays 0 is the model's choice (notes/assumptions/17.md). -/
def Obligations.LoopWaitsForeverForTheTransport : Prop :=
  ∀ (s : State) (c : ControlLoop) (n : Nat),
    s.host = .loop c → c.place = .waitConfigured → c.configured = [] → s.busy = false → s.turns = [] →
    ∃ u, Host.Core.run core n s = .next u ∧ u.host = s.host ∧ u.pins = s.pins ∧ u.fault = s.fault ∧
      u.trace = s.trace ∧ u.pwm = s.pwm

/-! ### The invariants: each is kept by every step of every agent, and all hold at reset -/

/-- 10_state.md R31: `INIT_STEP` is 0 exactly when `INIT_STATE` is not `Running`. -/
def Obligations.StepKeepsInitConsistent : Prop :=
  ∀ s t : State, s.InitConsistent → step s = .next t → t.InitConsistent

/-- 20_memory.md R69: at most one of a transaction and a `WAIT` is in flight. -/
def Obligations.StepKeepsOneInFlight : Prop :=
  ∀ s t : State, s.OneInFlight → step s = .next t → t.OneInFlight

/-- 10_state.md R28, R36, 20_memory.md R68: the trace is in order of time and ends no later than `NOW`. -/
def Obligations.StepKeepsTimeOrdered : Prop :=
  ∀ s t : State, s.TimeOrdered → step s = .next t → t.TimeOrdered

/-- 41_transaction_sequencer.md R135(a): when phase 5 is about to lower `E`, `MODE` and the bus have been stable for at
least `T_SETUP`. -/
def Obligations.StepKeepsSetupHeld : Prop :=
  ∀ s t : State, s.SetupHeld → step s = .next t → t.SetupHeld

/-- 60_exceptions.md R222: the bits of `FAULT` are exactly the causes of the fault events in the trace. -/
def Obligations.StepKeepsFaultsRecorded : Prop :=
  ∀ s t : State, s.FaultsRecorded → step s = .next t → t.FaultsRecorded

/-- 41_transaction_sequencer.md R126, R129: `T_FREE` is the time of the last latch event plus the delay of its mode. -/
def Obligations.StepKeepsFreeFromLatch : Prop :=
  ∀ s t : State, s.FreeFromLatch → step s = .next t → t.FreeFromLatch

/-- 42_pwm_contrast.md R150, R151: the generator is stopped as reset left it, but for `DUTY`, or runs with the one fixed
period. -/
def Obligations.StepKeepsGeneratorConfigured : Prop :=
  ∀ s t : State, s.pwm.Configured → step s = .next t → t.pwm.Configured

/-- Every invariant above holds at reset. -/
def Obligations.InvariantsHoldAtReset : Prop :=
  State.reset.InitConsistent ∧ State.reset.OneInFlight ∧ State.reset.TimeOrdered ∧ State.reset.SetupHeld ∧
  State.reset.FaultsRecorded ∧ State.reset.FreeFromLatch ∧ State.reset.pwm.Configured
end

