-- ==== Sys2Proof/Laws/State.lean ====
section
/-! SUPPORT. One lemma per field of State for each update of it: what the shared operations and the bodies leave of every
field. Later proofs rewrite with these and do not unfold an update again. -/

namespace Sys2Proof.Machine

@[simp] theorem append_pins (s : State) (es : List Event) : (s.append es).pins = s.pins := rfl
@[simp] theorem append_seq (s : State) (es : List Event) : (s.append es).seq = s.seq := rfl
@[simp] theorem append_arb (s : State) (es : List Event) : (s.append es).arb = s.arb := rfl
@[simp] theorem append_waitActive (s : State) (es : List Event) : (s.append es).waitActive = s.waitActive := rfl
@[simp] theorem append_ini (s : State) (es : List Event) : (s.append es).ini = s.ini := rfl
@[simp] theorem append_pwm (s : State) (es : List Event) : (s.append es).pwm = s.pwm := rfl
@[simp] theorem append_tick (s : State) (es : List Event) : (s.append es).tick = s.tick := rfl
@[simp] theorem append_fault (s : State) (es : List Event) : (s.append es).fault = s.fault := rfl
@[simp] theorem append_now (s : State) (es : List Event) : (s.append es).now = s.now := rfl
@[simp] theorem append_trace (s : State) (es : List Event) : (s.append es).trace = s.trace ++ es := rfl
@[simp] theorem append_response (s : State) (es : List Event) : (s.append es).response = s.response := rfl
@[simp] theorem append_draws (s : State) (es : List Event) : (s.append es).draws = s.draws := rfl
@[simp] theorem append_turns (s : State) (es : List Event) : (s.append es).turns = s.turns := rfl
@[simp] theorem append_host (s : State) (es : List Event) : (s.append es).host = s.host := rfl

@[simp] theorem stepTime_pins (s : State) : s.stepTime.pins = s.pins := rfl
@[simp] theorem stepTime_seq (s : State) : s.stepTime.seq = s.seq := rfl
@[simp] theorem stepTime_arb (s : State) : s.stepTime.arb = s.arb := rfl
@[simp] theorem stepTime_waitActive (s : State) : s.stepTime.waitActive = s.waitActive := rfl
@[simp] theorem stepTime_ini (s : State) : s.stepTime.ini = s.ini := rfl
@[simp] theorem stepTime_pwm (s : State) : s.stepTime.pwm = s.pwm := rfl
@[simp] theorem stepTime_tick (s : State) : s.stepTime.tick = s.tick := rfl
@[simp] theorem stepTime_fault (s : State) : s.stepTime.fault = s.fault := rfl
@[simp] theorem stepTime_now (s : State) : s.stepTime.now = s.now + Config.freeTime s.draws := rfl
@[simp] theorem stepTime_trace (s : State) : s.stepTime.trace = s.trace := rfl
@[simp] theorem stepTime_response (s : State) : s.stepTime.response = s.response := rfl
@[simp] theorem stepTime_draws (s : State) : s.stepTime.draws = s.draws + 1 := rfl
@[simp] theorem stepTime_turns (s : State) : s.stepTime.turns = s.turns := rfl
@[simp] theorem stepTime_host (s : State) : s.stepTime.host = s.host := rfl

@[simp] theorem sleep_pins (s : State) (k : DelayKind) : (s.sleep k).pins = s.pins := rfl
@[simp] theorem sleep_seq (s : State) (k : DelayKind) : (s.sleep k).seq = s.seq := rfl
@[simp] theorem sleep_arb (s : State) (k : DelayKind) : (s.sleep k).arb = s.arb := rfl
@[simp] theorem sleep_waitActive (s : State) (k : DelayKind) : (s.sleep k).waitActive = s.waitActive := rfl
@[simp] theorem sleep_ini (s : State) (k : DelayKind) : (s.sleep k).ini = s.ini := rfl
@[simp] theorem sleep_pwm (s : State) (k : DelayKind) : (s.sleep k).pwm = s.pwm := rfl
@[simp] theorem sleep_tick (s : State) (k : DelayKind) : (s.sleep k).tick = s.tick := rfl
@[simp] theorem sleep_fault (s : State) (k : DelayKind) : (s.sleep k).fault = s.fault := rfl
@[simp] theorem sleep_now (s : State) (k : DelayKind) : (s.sleep k).now = s.now + (intervalOf k + Config.freeTime s.draws) := rfl
@[simp] theorem sleep_trace (s : State) (k : DelayKind) : (s.sleep k).trace = s.trace ++ [.delay s.now k (intervalOf k)] := rfl
@[simp] theorem sleep_response (s : State) (k : DelayKind) : (s.sleep k).response = s.response := rfl
@[simp] theorem sleep_draws (s : State) (k : DelayKind) : (s.sleep k).draws = s.draws + 1 := rfl
@[simp] theorem sleep_turns (s : State) (k : DelayKind) : (s.sleep k).turns = s.turns := rfl
@[simp] theorem sleep_host (s : State) (k : DelayKind) : (s.sleep k).host = s.host := rfl

@[simp] theorem raise_pins (s : State) (c : Cause) (d : FaultDetail) : (s.raise c d).pins = s.pins := rfl
@[simp] theorem raise_seq (s : State) (c : Cause) (d : FaultDetail) : (s.raise c d).seq = s.seq := rfl
@[simp] theorem raise_arb (s : State) (c : Cause) (d : FaultDetail) : (s.raise c d).arb = s.arb := rfl
@[simp] theorem raise_waitActive (s : State) (c : Cause) (d : FaultDetail) : (s.raise c d).waitActive = s.waitActive := rfl
@[simp] theorem raise_ini (s : State) (c : Cause) (d : FaultDetail) : (s.raise c d).ini = s.ini := rfl
@[simp] theorem raise_pwm (s : State) (c : Cause) (d : FaultDetail) : (s.raise c d).pwm = s.pwm := rfl
@[simp] theorem raise_tick (s : State) (c : Cause) (d : FaultDetail) : (s.raise c d).tick = s.tick := rfl
@[simp] theorem raise_fault (s : State) (c : Cause) (d : FaultDetail) : (s.raise c d).fault = s.fault ||| c.mask := rfl
@[simp] theorem raise_now (s : State) (c : Cause) (d : FaultDetail) : (s.raise c d).now = s.now := rfl
@[simp] theorem raise_trace (s : State) (c : Cause) (d : FaultDetail) : (s.raise c d).trace = s.trace ++ [.fault s.now c d] := rfl
@[simp] theorem raise_response (s : State) (c : Cause) (d : FaultDetail) : (s.raise c d).response = s.response := rfl
@[simp] theorem raise_draws (s : State) (c : Cause) (d : FaultDetail) : (s.raise c d).draws = s.draws := rfl
@[simp] theorem raise_turns (s : State) (c : Cause) (d : FaultDetail) : (s.raise c d).turns = s.turns := rfl
@[simp] theorem raise_host (s : State) (c : Cause) (d : FaultDetail) : (s.raise c d).host = s.host := rfl

@[simp] theorem raiseIf_pins (s : State) (b : Bool) (c : Cause) (d : FaultDetail) : (s.raiseIf b c d).pins = s.pins := by unfold State.raiseIf; split <;> simp_all
@[simp] theorem raiseIf_seq (s : State) (b : Bool) (c : Cause) (d : FaultDetail) : (s.raiseIf b c d).seq = s.seq := by unfold State.raiseIf; split <;> simp_all
@[simp] theorem raiseIf_arb (s : State) (b : Bool) (c : Cause) (d : FaultDetail) : (s.raiseIf b c d).arb = s.arb := by unfold State.raiseIf; split <;> simp_all
@[simp] theorem raiseIf_waitActive (s : State) (b : Bool) (c : Cause) (d : FaultDetail) : (s.raiseIf b c d).waitActive = s.waitActive := by unfold State.raiseIf; split <;> simp_all
@[simp] theorem raiseIf_ini (s : State) (b : Bool) (c : Cause) (d : FaultDetail) : (s.raiseIf b c d).ini = s.ini := by unfold State.raiseIf; split <;> simp_all
@[simp] theorem raiseIf_pwm (s : State) (b : Bool) (c : Cause) (d : FaultDetail) : (s.raiseIf b c d).pwm = s.pwm := by unfold State.raiseIf; split <;> simp_all
@[simp] theorem raiseIf_tick (s : State) (b : Bool) (c : Cause) (d : FaultDetail) : (s.raiseIf b c d).tick = s.tick := by unfold State.raiseIf; split <;> simp_all
@[simp] theorem raiseIf_fault (s : State) (b : Bool) (c : Cause) (d : FaultDetail) : (s.raiseIf b c d).fault = if b then s.fault ||| c.mask else s.fault := by unfold State.raiseIf; split <;> simp_all
@[simp] theorem raiseIf_now (s : State) (b : Bool) (c : Cause) (d : FaultDetail) : (s.raiseIf b c d).now = s.now := by unfold State.raiseIf; split <;> simp_all
@[simp] theorem raiseIf_trace (s : State) (b : Bool) (c : Cause) (d : FaultDetail) : (s.raiseIf b c d).trace = s.trace ++ (if b then [.fault s.now c d] else []) := by unfold State.raiseIf; split <;> simp_all
@[simp] theorem raiseIf_response (s : State) (b : Bool) (c : Cause) (d : FaultDetail) : (s.raiseIf b c d).response = s.response := by unfold State.raiseIf; split <;> simp_all
@[simp] theorem raiseIf_draws (s : State) (b : Bool) (c : Cause) (d : FaultDetail) : (s.raiseIf b c d).draws = s.draws := by unfold State.raiseIf; split <;> simp_all
@[simp] theorem raiseIf_turns (s : State) (b : Bool) (c : Cause) (d : FaultDetail) : (s.raiseIf b c d).turns = s.turns := by unfold State.raiseIf; split <;> simp_all
@[simp] theorem raiseIf_host (s : State) (b : Bool) (c : Cause) (d : FaultDetail) : (s.raiseIf b c d).host = s.host := by unfold State.raiseIf; split <;> simp_all

@[simp] theorem latch_pins (s : State) (o : Origin) : (s.latch o).pins = s.pins := by simp [State.latch]
@[simp] theorem latch_seq (s : State) (o : Origin) : (s.latch o).seq = s.seq := by simp [State.latch]
@[simp] theorem latch_arb (s : State) (o : Origin) : (s.latch o).arb = { s.arb with tFree := s.now + intervalOf (postDelayOf (modeOfLevel (s.pins.pin .mode))) } := by simp [State.latch]
@[simp] theorem latch_waitActive (s : State) (o : Origin) : (s.latch o).waitActive = s.waitActive := by simp [State.latch]
@[simp] theorem latch_ini (s : State) (o : Origin) : (s.latch o).ini = s.ini := by simp [State.latch]
@[simp] theorem latch_pwm (s : State) (o : Origin) : (s.latch o).pwm = s.pwm := by simp [State.latch]
@[simp] theorem latch_tick (s : State) (o : Origin) : (s.latch o).tick = s.tick := by simp [State.latch]
@[simp] theorem latch_now (s : State) (o : Origin) : (s.latch o).now = s.now := by simp [State.latch]
@[simp] theorem latch_response (s : State) (o : Origin) : (s.latch o).response = s.response := by simp [State.latch]
@[simp] theorem latch_draws (s : State) (o : Origin) : (s.latch o).draws = s.draws := by simp [State.latch]
@[simp] theorem latch_turns (s : State) (o : Origin) : (s.latch o).turns = s.turns := by simp [State.latch]
@[simp] theorem latch_host (s : State) (o : Origin) : (s.latch o).host = s.host := by simp [State.latch]

@[simp] theorem latchIf_pins (s : State) (b : Bool) (o : Origin) : (s.latchIf b o).pins = s.pins := by unfold State.latchIf; split <;> simp_all
@[simp] theorem latchIf_seq (s : State) (b : Bool) (o : Origin) : (s.latchIf b o).seq = s.seq := by unfold State.latchIf; split <;> simp_all
@[simp] theorem latchIf_waitActive (s : State) (b : Bool) (o : Origin) : (s.latchIf b o).waitActive = s.waitActive := by unfold State.latchIf; split <;> simp_all
@[simp] theorem latchIf_ini (s : State) (b : Bool) (o : Origin) : (s.latchIf b o).ini = s.ini := by unfold State.latchIf; split <;> simp_all
@[simp] theorem latchIf_pwm (s : State) (b : Bool) (o : Origin) : (s.latchIf b o).pwm = s.pwm := by unfold State.latchIf; split <;> simp_all
@[simp] theorem latchIf_tick (s : State) (b : Bool) (o : Origin) : (s.latchIf b o).tick = s.tick := by unfold State.latchIf; split <;> simp_all
@[simp] theorem latchIf_now (s : State) (b : Bool) (o : Origin) : (s.latchIf b o).now = s.now := by unfold State.latchIf; split <;> simp_all
@[simp] theorem latchIf_response (s : State) (b : Bool) (o : Origin) : (s.latchIf b o).response = s.response := by unfold State.latchIf; split <;> simp_all
@[simp] theorem latchIf_draws (s : State) (b : Bool) (o : Origin) : (s.latchIf b o).draws = s.draws := by unfold State.latchIf; split <;> simp_all
@[simp] theorem latchIf_turns (s : State) (b : Bool) (o : Origin) : (s.latchIf b o).turns = s.turns := by unfold State.latchIf; split <;> simp_all
@[simp] theorem latchIf_host (s : State) (b : Bool) (o : Origin) : (s.latchIf b o).host = s.host := by unfold State.latchIf; split <;> simp_all

@[simp] theorem stampStableIf_pins (s : State) (b : Bool) : (s.stampStableIf b).pins = s.pins := by unfold State.stampStableIf; split <;> rfl
@[simp] theorem stampStableIf_seq (s : State) (b : Bool) : (s.stampStableIf b).seq = s.seq := by unfold State.stampStableIf; split <;> rfl
@[simp] theorem stampStableIf_waitActive (s : State) (b : Bool) : (s.stampStableIf b).waitActive = s.waitActive := by unfold State.stampStableIf; split <;> rfl
@[simp] theorem stampStableIf_ini (s : State) (b : Bool) : (s.stampStableIf b).ini = s.ini := by unfold State.stampStableIf; split <;> rfl
@[simp] theorem stampStableIf_pwm (s : State) (b : Bool) : (s.stampStableIf b).pwm = s.pwm := by unfold State.stampStableIf; split <;> rfl
@[simp] theorem stampStableIf_tick (s : State) (b : Bool) : (s.stampStableIf b).tick = s.tick := by unfold State.stampStableIf; split <;> rfl
@[simp] theorem stampStableIf_fault (s : State) (b : Bool) : (s.stampStableIf b).fault = s.fault := by unfold State.stampStableIf; split <;> rfl
@[simp] theorem stampStableIf_now (s : State) (b : Bool) : (s.stampStableIf b).now = s.now := by unfold State.stampStableIf; split <;> rfl
@[simp] theorem stampStableIf_trace (s : State) (b : Bool) : (s.stampStableIf b).trace = s.trace := by unfold State.stampStableIf; split <;> rfl
@[simp] theorem stampStableIf_response (s : State) (b : Bool) : (s.stampStableIf b).response = s.response := by unfold State.stampStableIf; split <;> rfl
@[simp] theorem stampStableIf_draws (s : State) (b : Bool) : (s.stampStableIf b).draws = s.draws := by unfold State.stampStableIf; split <;> rfl
@[simp] theorem stampStableIf_turns (s : State) (b : Bool) : (s.stampStableIf b).turns = s.turns := by unfold State.stampStableIf; split <;> rfl
@[simp] theorem stampStableIf_host (s : State) (b : Bool) : (s.stampStableIf b).host = s.host := by unfold State.stampStableIf; split <;> rfl

@[simp] theorem commit_pins (s : State) (p : Pins) (o : Origin) : (s.commit p o).pins = s.pins := by simp [State.commit]
@[simp] theorem commit_seq (s : State) (p : Pins) (o : Origin) : (s.commit p o).seq = s.seq := by simp [State.commit]
@[simp] theorem commit_waitActive (s : State) (p : Pins) (o : Origin) : (s.commit p o).waitActive = s.waitActive := by simp [State.commit]
@[simp] theorem commit_ini (s : State) (p : Pins) (o : Origin) : (s.commit p o).ini = s.ini := by simp [State.commit]
@[simp] theorem commit_pwm (s : State) (p : Pins) (o : Origin) : (s.commit p o).pwm = s.pwm := by simp [State.commit]
@[simp] theorem commit_tick (s : State) (p : Pins) (o : Origin) : (s.commit p o).tick = s.tick := by simp [State.commit]
@[simp] theorem commit_now (s : State) (p : Pins) (o : Origin) : (s.commit p o).now = s.now := by simp [State.commit]
@[simp] theorem commit_response (s : State) (p : Pins) (o : Origin) : (s.commit p o).response = s.response := by simp [State.commit]
@[simp] theorem commit_draws (s : State) (p : Pins) (o : Origin) : (s.commit p o).draws = s.draws := by simp [State.commit]
@[simp] theorem commit_turns (s : State) (p : Pins) (o : Origin) : (s.commit p o).turns = s.turns := by simp [State.commit]
@[simp] theorem commit_host (s : State) (p : Pins) (o : Origin) : (s.commit p o).host = s.host := by simp [State.commit]

@[simp] theorem changePins_pins (s : State) (p : Pins) (o : Origin) : (s.changePins p o).pins = p := by simp [State.changePins]
@[simp] theorem changePins_seq (s : State) (p : Pins) (o : Origin) : (s.changePins p o).seq = s.seq := by simp [State.changePins]
@[simp] theorem changePins_waitActive (s : State) (p : Pins) (o : Origin) : (s.changePins p o).waitActive = s.waitActive := by simp [State.changePins]
@[simp] theorem changePins_ini (s : State) (p : Pins) (o : Origin) : (s.changePins p o).ini = s.ini := by simp [State.changePins]
@[simp] theorem changePins_pwm (s : State) (p : Pins) (o : Origin) : (s.changePins p o).pwm = s.pwm := by simp [State.changePins]
@[simp] theorem changePins_tick (s : State) (p : Pins) (o : Origin) : (s.changePins p o).tick = s.tick := by simp [State.changePins]
@[simp] theorem changePins_now (s : State) (p : Pins) (o : Origin) : (s.changePins p o).now = s.now := by simp [State.changePins]
@[simp] theorem changePins_response (s : State) (p : Pins) (o : Origin) : (s.changePins p o).response = s.response := by simp [State.changePins]
@[simp] theorem changePins_draws (s : State) (p : Pins) (o : Origin) : (s.changePins p o).draws = s.draws := by simp [State.changePins]
@[simp] theorem changePins_turns (s : State) (p : Pins) (o : Origin) : (s.changePins p o).turns = s.turns := by simp [State.changePins]
@[simp] theorem changePins_host (s : State) (p : Pins) (o : Origin) : (s.changePins p o).host = s.host := by simp [State.changePins]

@[simp] theorem lineWrite_seq (s : State) (l : Line) (v : Level) (o : Origin) : (s.lineWrite l v o).seq = s.seq := by unfold State.lineWrite; split <;> simp
@[simp] theorem lineWrite_waitActive (s : State) (l : Line) (v : Level) (o : Origin) : (s.lineWrite l v o).waitActive = s.waitActive := by unfold State.lineWrite; split <;> simp
@[simp] theorem lineWrite_ini (s : State) (l : Line) (v : Level) (o : Origin) : (s.lineWrite l v o).ini = s.ini := by unfold State.lineWrite; split <;> simp
@[simp] theorem lineWrite_pwm (s : State) (l : Line) (v : Level) (o : Origin) : (s.lineWrite l v o).pwm = s.pwm := by unfold State.lineWrite; split <;> simp
@[simp] theorem lineWrite_tick (s : State) (l : Line) (v : Level) (o : Origin) : (s.lineWrite l v o).tick = s.tick := by unfold State.lineWrite; split <;> simp
@[simp] theorem lineWrite_now (s : State) (l : Line) (v : Level) (o : Origin) : (s.lineWrite l v o).now = s.now := by unfold State.lineWrite; split <;> simp
@[simp] theorem lineWrite_response (s : State) (l : Line) (v : Level) (o : Origin) : (s.lineWrite l v o).response = s.response := by unfold State.lineWrite; split <;> simp
@[simp] theorem lineWrite_turns (s : State) (l : Line) (v : Level) (o : Origin) : (s.lineWrite l v o).turns = s.turns := by unfold State.lineWrite; split <;> simp
@[simp] theorem lineWrite_host (s : State) (l : Line) (v : Level) (o : Origin) : (s.lineWrite l v o).host = s.host := by unfold State.lineWrite; split <;> simp

@[simp] theorem busWrite_seq (s : State) (b : Byte) (o : Origin) : (s.busWrite b o).seq = s.seq := by unfold State.busWrite; split <;> simp
@[simp] theorem busWrite_waitActive (s : State) (b : Byte) (o : Origin) : (s.busWrite b o).waitActive = s.waitActive := by unfold State.busWrite; split <;> simp
@[simp] theorem busWrite_ini (s : State) (b : Byte) (o : Origin) : (s.busWrite b o).ini = s.ini := by unfold State.busWrite; split <;> simp
@[simp] theorem busWrite_pwm (s : State) (b : Byte) (o : Origin) : (s.busWrite b o).pwm = s.pwm := by unfold State.busWrite; split <;> simp
@[simp] theorem busWrite_tick (s : State) (b : Byte) (o : Origin) : (s.busWrite b o).tick = s.tick := by unfold State.busWrite; split <;> simp
@[simp] theorem busWrite_now (s : State) (b : Byte) (o : Origin) : (s.busWrite b o).now = s.now := by unfold State.busWrite; split <;> simp
@[simp] theorem busWrite_response (s : State) (b : Byte) (o : Origin) : (s.busWrite b o).response = s.response := by unfold State.busWrite; split <;> simp
@[simp] theorem busWrite_turns (s : State) (b : Byte) (o : Origin) : (s.busWrite b o).turns = s.turns := by unfold State.busWrite; split <;> simp
@[simp] theorem busWrite_host (s : State) (b : Byte) (o : Origin) : (s.busWrite b o).host = s.host := by unfold State.busWrite; split <;> simp

@[simp] theorem illegalWord_pins (s : State) (w : Word) : (s.illegalWord w).pins = s.pins := rfl
@[simp] theorem illegalWord_seq (s : State) (w : Word) : (s.illegalWord w).seq = s.seq := rfl
@[simp] theorem illegalWord_arb (s : State) (w : Word) : (s.illegalWord w).arb = s.arb := rfl
@[simp] theorem illegalWord_waitActive (s : State) (w : Word) : (s.illegalWord w).waitActive = s.waitActive := rfl
@[simp] theorem illegalWord_ini (s : State) (w : Word) : (s.illegalWord w).ini = s.ini := rfl
@[simp] theorem illegalWord_pwm (s : State) (w : Word) : (s.illegalWord w).pwm = s.pwm := rfl
@[simp] theorem illegalWord_tick (s : State) (w : Word) : (s.illegalWord w).tick = s.tick := rfl
@[simp] theorem illegalWord_fault (s : State) (w : Word) : (s.illegalWord w).fault = s.fault ||| Cause.illegalOp.mask := rfl
@[simp] theorem illegalWord_now (s : State) (w : Word) : (s.illegalWord w).now = s.now + Config.freeTime s.draws := rfl
@[simp] theorem illegalWord_trace (s : State) (w : Word) : (s.illegalWord w).trace = s.trace ++ [.fault (s.now + Config.freeTime s.draws) .illegalOp (.word w)] := rfl
@[simp] theorem illegalWord_response (s : State) (w : Word) : (s.illegalWord w).response = s.response := rfl
@[simp] theorem illegalWord_draws (s : State) (w : Word) : (s.illegalWord w).draws = s.draws + 1 := rfl
@[simp] theorem illegalWord_turns (s : State) (w : Word) : (s.illegalWord w).turns = s.turns := rfl
@[simp] theorem illegalWord_host (s : State) (w : Word) : (s.illegalWord w).host = s.host := rfl

@[simp] theorem toPhase_pins (s : State) (p : Phase) : (s.toPhase p).pins = s.pins := rfl
@[simp] theorem toPhase_seq (s : State) (p : Phase) : (s.toPhase p).seq = { s.seq with phase := p } := rfl
@[simp] theorem toPhase_arb (s : State) (p : Phase) : (s.toPhase p).arb = s.arb := rfl
@[simp] theorem toPhase_waitActive (s : State) (p : Phase) : (s.toPhase p).waitActive = s.waitActive := rfl
@[simp] theorem toPhase_ini (s : State) (p : Phase) : (s.toPhase p).ini = s.ini := rfl
@[simp] theorem toPhase_pwm (s : State) (p : Phase) : (s.toPhase p).pwm = s.pwm := rfl
@[simp] theorem toPhase_tick (s : State) (p : Phase) : (s.toPhase p).tick = s.tick := rfl
@[simp] theorem toPhase_fault (s : State) (p : Phase) : (s.toPhase p).fault = s.fault := rfl
@[simp] theorem toPhase_now (s : State) (p : Phase) : (s.toPhase p).now = s.now := rfl
@[simp] theorem toPhase_trace (s : State) (p : Phase) : (s.toPhase p).trace = s.trace := rfl
@[simp] theorem toPhase_response (s : State) (p : Phase) : (s.toPhase p).response = s.response := rfl
@[simp] theorem toPhase_draws (s : State) (p : Phase) : (s.toPhase p).draws = s.draws := rfl
@[simp] theorem toPhase_turns (s : State) (p : Phase) : (s.toPhase p).turns = s.turns := rfl
@[simp] theorem toPhase_host (s : State) (p : Phase) : (s.toPhase p).host = s.host := rfl

@[simp] theorem endTransaction_pins (s : State) : s.endTransaction.pins = s.pins := rfl
@[simp] theorem endTransaction_seq (s : State) : s.endTransaction.seq = { mode := Config.freeMode s.draws, payload := Config.freeByte s.draws, phase := .idle } := rfl
@[simp] theorem endTransaction_arb (s : State) : s.endTransaction.arb = s.arb := rfl
@[simp] theorem endTransaction_waitActive (s : State) : s.endTransaction.waitActive = s.waitActive := rfl
@[simp] theorem endTransaction_ini (s : State) : s.endTransaction.ini = s.ini := rfl
@[simp] theorem endTransaction_pwm (s : State) : s.endTransaction.pwm = s.pwm := rfl
@[simp] theorem endTransaction_tick (s : State) : s.endTransaction.tick = s.tick := rfl
@[simp] theorem endTransaction_fault (s : State) : s.endTransaction.fault = s.fault := rfl
@[simp] theorem endTransaction_now (s : State) : s.endTransaction.now = s.now := rfl
@[simp] theorem endTransaction_trace (s : State) : s.endTransaction.trace = s.trace := rfl
@[simp] theorem endTransaction_response (s : State) : s.endTransaction.response = s.response := rfl
@[simp] theorem endTransaction_draws (s : State) : s.endTransaction.draws = s.draws + 1 := rfl
@[simp] theorem endTransaction_turns (s : State) : s.endTransaction.turns = s.turns := rfl
@[simp] theorem endTransaction_host (s : State) : s.endTransaction.host = s.host := rfl

@[simp] theorem beginExec_pins (b : Byte) (m : Mode) (s : State) : (beginExec b m s).pins = s.pins := rfl
@[simp] theorem beginExec_seq (b : Byte) (m : Mode) (s : State) : (beginExec b m s).seq = { mode := m, payload := b, phase := .p1 } := rfl
@[simp] theorem beginExec_arb (b : Byte) (m : Mode) (s : State) : (beginExec b m s).arb = s.arb := rfl
@[simp] theorem beginExec_waitActive (b : Byte) (m : Mode) (s : State) : (beginExec b m s).waitActive = s.waitActive := rfl
@[simp] theorem beginExec_ini (b : Byte) (m : Mode) (s : State) : (beginExec b m s).ini = s.ini := rfl
@[simp] theorem beginExec_pwm (b : Byte) (m : Mode) (s : State) : (beginExec b m s).pwm = s.pwm := rfl
@[simp] theorem beginExec_tick (b : Byte) (m : Mode) (s : State) : (beginExec b m s).tick = s.tick := rfl
@[simp] theorem beginExec_fault (b : Byte) (m : Mode) (s : State) : (beginExec b m s).fault = s.fault := rfl
@[simp] theorem beginExec_now (b : Byte) (m : Mode) (s : State) : (beginExec b m s).now = s.now := rfl
@[simp] theorem beginExec_trace (b : Byte) (m : Mode) (s : State) : (beginExec b m s).trace = s.trace := rfl
@[simp] theorem beginExec_response (b : Byte) (m : Mode) (s : State) : (beginExec b m s).response = s.response := rfl
@[simp] theorem beginExec_draws (b : Byte) (m : Mode) (s : State) : (beginExec b m s).draws = s.draws := rfl
@[simp] theorem beginExec_turns (b : Byte) (m : Mode) (s : State) : (beginExec b m s).turns = s.turns := rfl
@[simp] theorem beginExec_host (b : Byte) (m : Mode) (s : State) : (beginExec b m s).host = s.host := rfl

@[simp] theorem genStep_pins (s : State) : (genStep s).pins = s.pins := rfl
@[simp] theorem genStep_seq (s : State) : (genStep s).seq = s.seq := rfl
@[simp] theorem genStep_arb (s : State) : (genStep s).arb = s.arb := rfl
@[simp] theorem genStep_waitActive (s : State) : (genStep s).waitActive = s.waitActive := rfl
@[simp] theorem genStep_ini (s : State) : (genStep s).ini = s.ini := rfl
@[simp] theorem genStep_pwm (s : State) : (genStep s).pwm = s.pwm.clock := rfl
@[simp] theorem genStep_tick (s : State) : (genStep s).tick = s.tick := rfl
@[simp] theorem genStep_fault (s : State) : (genStep s).fault = s.fault := rfl
@[simp] theorem genStep_now (s : State) : (genStep s).now = s.now := rfl
@[simp] theorem genStep_trace (s : State) : (genStep s).trace = s.trace := rfl
@[simp] theorem genStep_response (s : State) : (genStep s).response = s.response := rfl
@[simp] theorem genStep_draws (s : State) : (genStep s).draws = s.draws := rfl
@[simp] theorem genStep_turns (s : State) : (genStep s).turns = s.turns := rfl
@[simp] theorem genStep_host (s : State) : (genStep s).host = s.host := rfl

@[simp] theorem tickEvent_pins (s : State) : (tickEvent s).pins = s.pins := rfl
@[simp] theorem tickEvent_seq (s : State) : (tickEvent s).seq = s.seq := rfl
@[simp] theorem tickEvent_arb (s : State) : (tickEvent s).arb = s.arb := rfl
@[simp] theorem tickEvent_waitActive (s : State) : (tickEvent s).waitActive = s.waitActive := rfl
@[simp] theorem tickEvent_ini (s : State) : (tickEvent s).ini = s.ini := rfl
@[simp] theorem tickEvent_pwm (s : State) : (tickEvent s).pwm = s.pwm := rfl
@[simp] theorem tickEvent_tick (s : State) : (tickEvent s).tick = true := rfl
@[simp] theorem tickEvent_fault (s : State) : (tickEvent s).fault = s.fault := rfl
@[simp] theorem tickEvent_now (s : State) : (tickEvent s).now = s.now := rfl
@[simp] theorem tickEvent_trace (s : State) : (tickEvent s).trace = s.trace := rfl
@[simp] theorem tickEvent_response (s : State) : (tickEvent s).response = s.response := rfl
@[simp] theorem tickEvent_draws (s : State) : (tickEvent s).draws = s.draws := rfl
@[simp] theorem tickEvent_turns (s : State) : (tickEvent s).turns = s.turns := rfl
@[simp] theorem tickEvent_host (s : State) : (tickEvent s).host = s.host := rfl

@[simp] theorem respond_pins (s : State) (b : Bool) : (s.respond b).pins = s.pins := rfl
@[simp] theorem respond_seq (s : State) (b : Bool) : (s.respond b).seq = s.seq := rfl
@[simp] theorem respond_arb (s : State) (b : Bool) : (s.respond b).arb = s.arb := rfl
@[simp] theorem respond_waitActive (s : State) (b : Bool) : (s.respond b).waitActive = s.waitActive := rfl
@[simp] theorem respond_ini (s : State) (b : Bool) : (s.respond b).ini = s.ini := rfl
@[simp] theorem respond_pwm (s : State) (b : Bool) : (s.respond b).pwm = s.pwm := rfl
@[simp] theorem respond_tick (s : State) (b : Bool) : (s.respond b).tick = s.tick := rfl
@[simp] theorem respond_fault (s : State) (b : Bool) : (s.respond b).fault = s.fault := rfl
@[simp] theorem respond_now (s : State) (b : Bool) : (s.respond b).now = s.now := rfl
@[simp] theorem respond_trace (s : State) (b : Bool) : (s.respond b).trace = s.trace := rfl
@[simp] theorem respond_response (s : State) (b : Bool) : (s.respond b).response = some b := rfl
@[simp] theorem respond_draws (s : State) (b : Bool) : (s.respond b).draws = s.draws := rfl
@[simp] theorem respond_turns (s : State) (b : Bool) : (s.respond b).turns = s.turns := rfl
@[simp] theorem respond_host (s : State) (b : Bool) : (s.respond b).host = s.host := rfl

@[simp] theorem setcBody_pins (v : Byte) (s : State) : (setcBody v s).pins = s.pins := rfl
@[simp] theorem setcBody_seq (v : Byte) (s : State) : (setcBody v s).seq = s.seq := rfl
@[simp] theorem setcBody_arb (v : Byte) (s : State) : (setcBody v s).arb = s.arb := rfl
@[simp] theorem setcBody_waitActive (v : Byte) (s : State) : (setcBody v s).waitActive = s.waitActive := rfl
@[simp] theorem setcBody_ini (v : Byte) (s : State) : (setcBody v s).ini = s.ini := rfl
@[simp] theorem setcBody_pwm (v : Byte) (s : State) : (setcBody v s).pwm = { s.pwm with duty := v } := rfl
@[simp] theorem setcBody_tick (v : Byte) (s : State) : (setcBody v s).tick = s.tick := rfl
@[simp] theorem setcBody_fault (v : Byte) (s : State) : (setcBody v s).fault = s.fault := rfl
@[simp] theorem setcBody_now (v : Byte) (s : State) : (setcBody v s).now = s.now + Config.freeTime s.draws := rfl
@[simp] theorem setcBody_trace (v : Byte) (s : State) : (setcBody v s).trace = s.trace ++ [.dutyWrite (s.now + Config.freeTime s.draws) v] := rfl
@[simp] theorem setcBody_response (v : Byte) (s : State) : (setcBody v s).response = s.response := rfl
@[simp] theorem setcBody_draws (v : Byte) (s : State) : (setcBody v s).draws = s.draws + 1 := rfl
@[simp] theorem setcBody_turns (v : Byte) (s : State) : (setcBody v s).turns = s.turns := rfl
@[simp] theorem setcBody_host (v : Byte) (s : State) : (setcBody v s).host = s.host := rfl

@[simp] theorem pwminitBody_pins (s : State) : (pwminitBody s).pins = s.pins := rfl
@[simp] theorem pwminitBody_seq (s : State) : (pwminitBody s).seq = s.seq := rfl
@[simp] theorem pwminitBody_arb (s : State) : (pwminitBody s).arb = s.arb := rfl
@[simp] theorem pwminitBody_waitActive (s : State) : (pwminitBody s).waitActive = s.waitActive := rfl
@[simp] theorem pwminitBody_ini (s : State) : (pwminitBody s).ini = s.ini := rfl
@[simp] theorem pwminitBody_pwm (s : State) : (pwminitBody s).pwm = s.pwm.configure := rfl
@[simp] theorem pwminitBody_tick (s : State) : (pwminitBody s).tick = s.tick := rfl
@[simp] theorem pwminitBody_fault (s : State) : (pwminitBody s).fault = s.fault := rfl
@[simp] theorem pwminitBody_now (s : State) : (pwminitBody s).now = s.now + Config.freeTime s.draws := rfl
@[simp] theorem pwminitBody_trace (s : State) : (pwminitBody s).trace = s.trace := rfl
@[simp] theorem pwminitBody_response (s : State) : (pwminitBody s).response = s.response := rfl
@[simp] theorem pwminitBody_draws (s : State) : (pwminitBody s).draws = s.draws + 1 := rfl
@[simp] theorem pwminitBody_turns (s : State) : (pwminitBody s).turns = s.turns := rfl
@[simp] theorem pwminitBody_host (s : State) : (pwminitBody s).host = s.host := rfl

@[simp] theorem rdtickBody_pins (s : State) : (rdtickBody s).pins = s.pins := rfl
@[simp] theorem rdtickBody_seq (s : State) : (rdtickBody s).seq = s.seq := rfl
@[simp] theorem rdtickBody_arb (s : State) : (rdtickBody s).arb = s.arb := rfl
@[simp] theorem rdtickBody_waitActive (s : State) : (rdtickBody s).waitActive = s.waitActive := rfl
@[simp] theorem rdtickBody_ini (s : State) : (rdtickBody s).ini = s.ini := rfl
@[simp] theorem rdtickBody_pwm (s : State) : (rdtickBody s).pwm = s.pwm := rfl
@[simp] theorem rdtickBody_tick (s : State) : (rdtickBody s).tick = s.tick := rfl
@[simp] theorem rdtickBody_fault (s : State) : (rdtickBody s).fault = s.fault := rfl
@[simp] theorem rdtickBody_now (s : State) : (rdtickBody s).now = s.now + Config.freeTime s.draws := rfl
@[simp] theorem rdtickBody_trace (s : State) : (rdtickBody s).trace = s.trace ++ [.tickRead (s.now + Config.freeTime s.draws) s.tick] := rfl
@[simp] theorem rdtickBody_response (s : State) : (rdtickBody s).response = some s.tick := rfl
@[simp] theorem rdtickBody_draws (s : State) : (rdtickBody s).draws = s.draws + 1 := rfl
@[simp] theorem rdtickBody_turns (s : State) : (rdtickBody s).turns = s.turns := rfl
@[simp] theorem rdtickBody_host (s : State) : (rdtickBody s).host = s.host := rfl

@[simp] theorem clrtickBody_pins (s : State) : (clrtickBody s).pins = s.pins := rfl
@[simp] theorem clrtickBody_seq (s : State) : (clrtickBody s).seq = s.seq := rfl
@[simp] theorem clrtickBody_arb (s : State) : (clrtickBody s).arb = s.arb := rfl
@[simp] theorem clrtickBody_waitActive (s : State) : (clrtickBody s).waitActive = s.waitActive := rfl
@[simp] theorem clrtickBody_ini (s : State) : (clrtickBody s).ini = s.ini := rfl
@[simp] theorem clrtickBody_pwm (s : State) : (clrtickBody s).pwm = s.pwm := rfl
@[simp] theorem clrtickBody_tick (s : State) : (clrtickBody s).tick = false := rfl
@[simp] theorem clrtickBody_fault (s : State) : (clrtickBody s).fault = s.fault := rfl
@[simp] theorem clrtickBody_now (s : State) : (clrtickBody s).now = s.now + Config.freeTime s.draws := rfl
@[simp] theorem clrtickBody_trace (s : State) : (clrtickBody s).trace = s.trace := rfl
@[simp] theorem clrtickBody_response (s : State) : (clrtickBody s).response = s.response := rfl
@[simp] theorem clrtickBody_draws (s : State) : (clrtickBody s).draws = s.draws + 1 := rfl
@[simp] theorem clrtickBody_turns (s : State) : (clrtickBody s).turns = s.turns := rfl
@[simp] theorem clrtickBody_host (s : State) : (clrtickBody s).host = s.host := rfl

@[simp] theorem beginWait_pins (k : DelayKind) (s : State) : (beginWait k s).pins = s.pins := rfl
@[simp] theorem beginWait_seq (k : DelayKind) (s : State) : (beginWait k s).seq = s.seq := rfl
@[simp] theorem beginWait_arb (k : DelayKind) (s : State) : (beginWait k s).arb = s.arb := rfl
@[simp] theorem beginWait_waitActive (k : DelayKind) (s : State) : (beginWait k s).waitActive = true := rfl
@[simp] theorem beginWait_ini (k : DelayKind) (s : State) : (beginWait k s).ini = s.ini := rfl
@[simp] theorem beginWait_pwm (k : DelayKind) (s : State) : (beginWait k s).pwm = s.pwm := rfl
@[simp] theorem beginWait_tick (k : DelayKind) (s : State) : (beginWait k s).tick = s.tick := rfl
@[simp] theorem beginWait_fault (k : DelayKind) (s : State) : (beginWait k s).fault = s.fault := rfl
@[simp] theorem beginWait_now (k : DelayKind) (s : State) : (beginWait k s).now = s.now + (intervalOf k + Config.freeTime s.draws) := rfl
@[simp] theorem beginWait_trace (k : DelayKind) (s : State) : (beginWait k s).trace = s.trace ++ [.delay s.now k (intervalOf k)] := rfl
@[simp] theorem beginWait_response (k : DelayKind) (s : State) : (beginWait k s).response = s.response := rfl
@[simp] theorem beginWait_draws (k : DelayKind) (s : State) : (beginWait k s).draws = s.draws + 1 := rfl
@[simp] theorem beginWait_turns (k : DelayKind) (s : State) : (beginWait k s).turns = s.turns := rfl
@[simp] theorem beginWait_host (k : DelayKind) (s : State) : (beginWait k s).host = s.host := rfl

@[simp] theorem endWait_pins (s : State) : (endWait s).pins = s.pins := rfl
@[simp] theorem endWait_seq (s : State) : (endWait s).seq = s.seq := rfl
@[simp] theorem endWait_arb (s : State) : (endWait s).arb = s.arb := rfl
@[simp] theorem endWait_waitActive (s : State) : (endWait s).waitActive = false := rfl
@[simp] theorem endWait_ini (s : State) : (endWait s).ini = s.ini := rfl
@[simp] theorem endWait_pwm (s : State) : (endWait s).pwm = s.pwm := rfl
@[simp] theorem endWait_tick (s : State) : (endWait s).tick = s.tick := rfl
@[simp] theorem endWait_fault (s : State) : (endWait s).fault = s.fault := rfl
@[simp] theorem endWait_now (s : State) : (endWait s).now = s.now := rfl
@[simp] theorem endWait_trace (s : State) : (endWait s).trace = s.trace := rfl
@[simp] theorem endWait_response (s : State) : (endWait s).response = s.response := rfl
@[simp] theorem endWait_draws (s : State) : (endWait s).draws = s.draws := rfl
@[simp] theorem endWait_turns (s : State) : (endWait s).turns = s.turns := rfl
@[simp] theorem endWait_host (s : State) : (endWait s).host = s.host := rfl

@[simp] theorem beginInit_pins (s : State) : (beginInit s).pins = s.pins := rfl
@[simp] theorem beginInit_seq (s : State) : (beginInit s).seq = s.seq := rfl
@[simp] theorem beginInit_arb (s : State) : (beginInit s).arb = s.arb := rfl
@[simp] theorem beginInit_waitActive (s : State) : (beginInit s).waitActive = s.waitActive := rfl
@[simp] theorem beginInit_ini (s : State) : (beginInit s).ini = { status := .running, step := 1, op := 0 } := rfl
@[simp] theorem beginInit_pwm (s : State) : (beginInit s).pwm = s.pwm := rfl
@[simp] theorem beginInit_tick (s : State) : (beginInit s).tick = s.tick := rfl
@[simp] theorem beginInit_fault (s : State) : (beginInit s).fault = s.fault := rfl
@[simp] theorem beginInit_now (s : State) : (beginInit s).now = s.now := rfl
@[simp] theorem beginInit_trace (s : State) : (beginInit s).trace = s.trace := rfl
@[simp] theorem beginInit_response (s : State) : (beginInit s).response = s.response := rfl
@[simp] theorem beginInit_draws (s : State) : (beginInit s).draws = s.draws := rfl
@[simp] theorem beginInit_turns (s : State) : (beginInit s).turns = s.turns := rfl
@[simp] theorem beginInit_host (s : State) : (beginInit s).host = s.host := rfl

@[simp] theorem cfgdirBody_pins (t : Target) (d : Direction) (o : Origin) (s : State) : (cfgdirBody t d o s).pins = s.pins.setTargetDir t d := by simp [cfgdirBody]
@[simp] theorem cfgdirBody_seq (t : Target) (d : Direction) (o : Origin) (s : State) : (cfgdirBody t d o s).seq = s.seq := by simp [cfgdirBody]
@[simp] theorem cfgdirBody_waitActive (t : Target) (d : Direction) (o : Origin) (s : State) : (cfgdirBody t d o s).waitActive = s.waitActive := by simp [cfgdirBody]
@[simp] theorem cfgdirBody_ini (t : Target) (d : Direction) (o : Origin) (s : State) : (cfgdirBody t d o s).ini = s.ini := by simp [cfgdirBody]
@[simp] theorem cfgdirBody_pwm (t : Target) (d : Direction) (o : Origin) (s : State) : (cfgdirBody t d o s).pwm = s.pwm := by simp [cfgdirBody]
@[simp] theorem cfgdirBody_tick (t : Target) (d : Direction) (o : Origin) (s : State) : (cfgdirBody t d o s).tick = s.tick := by simp [cfgdirBody]
@[simp] theorem cfgdirBody_now (t : Target) (d : Direction) (o : Origin) (s : State) : (cfgdirBody t d o s).now = s.now + Config.freeTime s.draws := by simp [cfgdirBody]
@[simp] theorem cfgdirBody_response (t : Target) (d : Direction) (o : Origin) (s : State) : (cfgdirBody t d o s).response = s.response := by simp [cfgdirBody]
@[simp] theorem cfgdirBody_draws (t : Target) (d : Direction) (o : Origin) (s : State) : (cfgdirBody t d o s).draws = s.draws + 1 := by simp [cfgdirBody]
@[simp] theorem cfgdirBody_turns (t : Target) (d : Direction) (o : Origin) (s : State) : (cfgdirBody t d o s).turns = s.turns := by simp [cfgdirBody]
@[simp] theorem cfgdirBody_host (t : Target) (d : Direction) (o : Origin) (s : State) : (cfgdirBody t d o s).host = s.host := by simp [cfgdirBody]

@[simp] theorem wrlineBody_seq (l : Line) (v : Level) (o : Origin) (s : State) : (wrlineBody l v o s).seq = s.seq := by simp [wrlineBody]
@[simp] theorem wrlineBody_waitActive (l : Line) (v : Level) (o : Origin) (s : State) : (wrlineBody l v o s).waitActive = s.waitActive := by simp [wrlineBody]
@[simp] theorem wrlineBody_ini (l : Line) (v : Level) (o : Origin) (s : State) : (wrlineBody l v o s).ini = s.ini := by simp [wrlineBody]
@[simp] theorem wrlineBody_pwm (l : Line) (v : Level) (o : Origin) (s : State) : (wrlineBody l v o s).pwm = s.pwm := by simp [wrlineBody]
@[simp] theorem wrlineBody_tick (l : Line) (v : Level) (o : Origin) (s : State) : (wrlineBody l v o s).tick = s.tick := by simp [wrlineBody]
@[simp] theorem wrlineBody_now (l : Line) (v : Level) (o : Origin) (s : State) : (wrlineBody l v o s).now = s.now + Config.freeTime s.draws := by simp [wrlineBody]
@[simp] theorem wrlineBody_response (l : Line) (v : Level) (o : Origin) (s : State) : (wrlineBody l v o s).response = s.response := by simp [wrlineBody]
@[simp] theorem wrlineBody_turns (l : Line) (v : Level) (o : Origin) (s : State) : (wrlineBody l v o s).turns = s.turns := by simp [wrlineBody]
@[simp] theorem wrlineBody_host (l : Line) (v : Level) (o : Origin) (s : State) : (wrlineBody l v o s).host = s.host := by simp [wrlineBody]

@[simp] theorem wrbusBody_seq (b : Byte) (o : Origin) (s : State) : (wrbusBody b o s).seq = s.seq := by simp [wrbusBody]
@[simp] theorem wrbusBody_waitActive (b : Byte) (o : Origin) (s : State) : (wrbusBody b o s).waitActive = s.waitActive := by simp [wrbusBody]
@[simp] theorem wrbusBody_ini (b : Byte) (o : Origin) (s : State) : (wrbusBody b o s).ini = s.ini := by simp [wrbusBody]
@[simp] theorem wrbusBody_pwm (b : Byte) (o : Origin) (s : State) : (wrbusBody b o s).pwm = s.pwm := by simp [wrbusBody]
@[simp] theorem wrbusBody_tick (b : Byte) (o : Origin) (s : State) : (wrbusBody b o s).tick = s.tick := by simp [wrbusBody]
@[simp] theorem wrbusBody_now (b : Byte) (o : Origin) (s : State) : (wrbusBody b o s).now = s.now + Config.freeTime s.draws := by simp [wrbusBody]
@[simp] theorem wrbusBody_response (b : Byte) (o : Origin) (s : State) : (wrbusBody b o s).response = s.response := by simp [wrbusBody]
@[simp] theorem wrbusBody_turns (b : Byte) (o : Origin) (s : State) : (wrbusBody b o s).turns = s.turns := by simp [wrbusBody]
@[simp] theorem wrbusBody_host (b : Byte) (o : Origin) (s : State) : (wrbusBody b o s).host = s.host := by simp [wrbusBody]

@[simp] theorem endInitStep_pins (s : State) : (endInitStep s).pins = s.pins := by unfold endInitStep; split <;> simp
@[simp] theorem endInitStep_seq (s : State) : (endInitStep s).seq = s.seq := by unfold endInitStep; split <;> simp
@[simp] theorem endInitStep_arb (s : State) : (endInitStep s).arb = s.arb := by unfold endInitStep; split <;> simp
@[simp] theorem endInitStep_waitActive (s : State) : (endInitStep s).waitActive = s.waitActive := by unfold endInitStep; split <;> simp
@[simp] theorem endInitStep_pwm (s : State) : (endInitStep s).pwm = s.pwm := by unfold endInitStep; split <;> simp
@[simp] theorem endInitStep_tick (s : State) : (endInitStep s).tick = s.tick := by unfold endInitStep; split <;> simp
@[simp] theorem endInitStep_fault (s : State) : (endInitStep s).fault = s.fault := by unfold endInitStep; split <;> simp
@[simp] theorem endInitStep_now (s : State) : (endInitStep s).now = s.now := by unfold endInitStep; split <;> simp
@[simp] theorem endInitStep_response (s : State) : (endInitStep s).response = s.response := by unfold endInitStep; split <;> simp
@[simp] theorem endInitStep_draws (s : State) : (endInitStep s).draws = s.draws := by unfold endInitStep; split <;> simp
@[simp] theorem endInitStep_turns (s : State) : (endInitStep s).turns = s.turns := by unfold endInitStep; split <;> simp
@[simp] theorem endInitStep_host (s : State) : (endInitStep s).host = s.host := by unfold endInitStep; split <;> simp

end Sys2Proof.Machine
end

