-- ==== Sys2Proof/Laws/Pins.lean ====
section
/-! SUPPORT. What writing a direction or a latch does to every line's direction, latch and pin, and to the bus; the pin
and bus events of such a write; the addressing function. -/

namespace Sys2Proof.Machine

theorem mem_allLines (l : Line) : l ∈ allLines ↔ l.wellFormed = true := by
  cases l <;> simp [allLines, Line.wellFormed]

theorem allLines_nodup : allLines.Nodup := by decide

theorem LineFile.get_set_same (f : LineFile) (r : LineReg) (l : Line) (h : l.wellFormed = true) :
    (f.set r l).get l = r := by
  cases l with
  | cs k =>
    have hk : k < Config.nCS := by simpa [Line.wellFormed] using h
    simp [LineFile.get, LineFile.set, hk]
  | _ => rfl

theorem LineFile.get_set_ne (f : LineFile) (r : LineReg) (l l' : Line) (h : l' ≠ l) :
    (f.set r l).get l' = f.get l' := by
  cases l with
  | cs k =>
    cases l' with
    | cs k' =>
      have hne : k ≠ k' := fun e => h (by rw [e])
      simp [LineFile.get, LineFile.set, Vector.getElem?_setIfInBounds_ne hne]
    | _ => rfl
  | _ => cases l' <;> first | rfl | exact absurd rfl h

section
variable (p : Pins) (l l' : Line) (d : Direction) (v : Level)

theorem Pins.dir_setDir_same (h : l.wellFormed = true) : (p.setDir l d).dir l = d := by
  simp [Pins.dir, Pins.setDir, LineFile.get_set_same _ _ _ h]

theorem Pins.out_setDir_same (h : l.wellFormed = true) : (p.setDir l d).out l = p.out l := by
  simp [Pins.out, Pins.setDir, LineFile.get_set_same _ _ _ h]

theorem Pins.dir_setOut_same (h : l.wellFormed = true) : (p.setOut l v).dir l = p.dir l := by
  simp [Pins.dir, Pins.setOut, LineFile.get_set_same _ _ _ h]

theorem Pins.out_setOut_same (h : l.wellFormed = true) : (p.setOut l v).out l = v := by
  simp [Pins.out, Pins.setOut, LineFile.get_set_same _ _ _ h]

theorem Pins.dir_setDir_ne (h : l' ≠ l) : (p.setDir l d).dir l' = p.dir l' := by
  simp [Pins.dir, Pins.setDir, LineFile.get_set_ne _ _ _ _ h]

theorem Pins.out_setDir_ne (h : l' ≠ l) : (p.setDir l d).out l' = p.out l' := by
  simp [Pins.out, Pins.setDir, LineFile.get_set_ne _ _ _ _ h]

theorem Pins.dir_setOut_ne (h : l' ≠ l) : (p.setOut l v).dir l' = p.dir l' := by
  simp [Pins.dir, Pins.setOut, LineFile.get_set_ne _ _ _ _ h]

theorem Pins.out_setOut_ne (h : l' ≠ l) : (p.setOut l v).out l' = p.out l' := by
  simp [Pins.out, Pins.setOut, LineFile.get_set_ne _ _ _ _ h]

theorem Pins.pin_eq_of_regs (q : Pins) (hd : q.dir l = p.dir l) (ho : q.out l = p.out l) : q.pin l = p.pin l := by
  simp [Pins.pin, hd, ho]

theorem Pins.pin_setDir_ne (h : l' ≠ l) : (p.setDir l d).pin l' = p.pin l' :=
  Pins.pin_eq_of_regs p l' _ (Pins.dir_setDir_ne p l l' d h) (Pins.out_setDir_ne p l l' d h)

theorem Pins.pin_setOut_ne (h : l' ≠ l) : (p.setOut l v).pin l' = p.pin l' :=
  Pins.pin_eq_of_regs p l' _ (Pins.dir_setOut_ne p l l' v h) (Pins.out_setOut_ne p l l' v h)

theorem Pins.pin_of_output (h : p.dir l = .output) : p.pin l = p.out l := by simp [Pins.pin, h]

theorem Pins.pin_of_input (h : p.dir l = .input) : p.pin l = Config.ext l := by simp [Pins.pin, h]

theorem Pins.pin_setOut_output (hw : l.wellFormed = true) (h : p.dir l = .output) : (p.setOut l v).pin l = v := by
  rw [Pins.pin_of_output _ _ (by rw [Pins.dir_setOut_same p l v hw, h]), Pins.out_setOut_same p l v hw]

theorem Pins.pin_setOut_input (hw : l.wellFormed = true) (h : p.dir l = .input) :
    (p.setOut l v).pin l = p.pin l := by
  rw [Pins.pin_of_input _ _ (by rw [Pins.dir_setOut_same p l v hw, h]), Pins.pin_of_input _ _ h]

@[simp] theorem Pins.busDir_setDir : (p.setDir l d).busDir = p.busDir := rfl
@[simp] theorem Pins.busOut_setDir : (p.setDir l d).busOut = p.busOut := rfl
@[simp] theorem Pins.pinBus_setDir : (p.setDir l d).pinBus = p.pinBus := rfl
@[simp] theorem Pins.busDir_setOut : (p.setOut l v).busDir = p.busDir := rfl
@[simp] theorem Pins.busOut_setOut : (p.setOut l v).busOut = p.busOut := rfl
@[simp] theorem Pins.pinBus_setOut : (p.setOut l v).pinBus = p.pinBus := rfl

end

section
variable (p : Pins) (l : Line) (b : Byte) (d : Direction)

@[simp] theorem Pins.dir_setBusOut : (p.setBusOut b).dir l = p.dir l := rfl
@[simp] theorem Pins.out_setBusOut : (p.setBusOut b).out l = p.out l := rfl
@[simp] theorem Pins.pin_setBusOut : (p.setBusOut b).pin l = p.pin l := rfl
@[simp] theorem Pins.busDir_setBusOut : (p.setBusOut b).busDir = p.busDir := rfl
@[simp] theorem Pins.busOut_setBusOut : (p.setBusOut b).busOut = b := rfl
@[simp] theorem Pins.lines_setBusOut : (p.setBusOut b).lines = p.lines := rfl
@[simp] theorem Pins.dir_setBusDir : (p.setBusDir d).dir l = p.dir l := rfl
@[simp] theorem Pins.out_setBusDir : (p.setBusDir d).out l = p.out l := rfl
@[simp] theorem Pins.pin_setBusDir : (p.setBusDir d).pin l = p.pin l := rfl
@[simp] theorem Pins.busDir_setBusDir : (p.setBusDir d).busDir = d := rfl
@[simp] theorem Pins.busOut_setBusDir : (p.setBusDir d).busOut = p.busOut := rfl
@[simp] theorem Pins.lines_setBusDir : (p.setBusDir d).lines = p.lines := rfl

theorem Pins.pinBus_setBusOut_output (h : p.busDir = .output) : (p.setBusOut b).pinBus = b := by
  simp [Pins.pinBus, Pins.setBusOut, h]

theorem Pins.pinBus_setBusOut_input (h : p.busDir = .input) : (p.setBusOut b).pinBus = p.pinBus := by
  simp [Pins.pinBus, Pins.setBusOut, h]

theorem Pins.pinBus_setBusDir : (p.setBusDir d).pinBus = if d = .output then p.busOut else Config.extBus := by
  cases d <;> rfl

theorem Pins.pinBus_of_output (h : p.busDir = .output) : p.pinBus = p.busOut := by simp [Pins.pinBus, h]

end

/-- The events of a change of one line's registers: one `PinEvent` of that line if its direction or level changed. -/
theorem pinEvents_one_line (before after : Pins) (l : Line) (t : Nat) (hw : l.wellFormed = true)
    (hne : ∀ l', l' ≠ l → after.dir l' = before.dir l' ∧ after.pin l' = before.pin l') :
    pinEvents before after t =
      if after.dir l = before.dir l ∧ after.pin l = before.pin l then [] else [.pin t l (after.dir l) (after.pin l)] := by
  have hfilter : (allLines.filter fun l' =>
      decide (¬(after.dir l' = before.dir l' ∧ after.pin l' = before.pin l'))) =
      if after.dir l = before.dir l ∧ after.pin l = before.pin l then [] else [l] := by
    split
    · next h =>
      refine List.filter_eq_nil_iff.2 fun l' _ => ?_
      by_cases hl : l' = l
      · subst hl; simp [h]
      · simp [hne l' hl]
    · next h =>
      have hcongr : (allLines.filter fun l' =>
          decide (¬(after.dir l' = before.dir l' ∧ after.pin l' = before.pin l'))) =
          allLines.filter (fun l' => l' == l) := by
        refine List.filter_congr fun l' _ => ?_
        by_cases hl : l' = l
        · subst hl; simp only [beq_self_eq_true]; exact decide_eq_true h
        · simp [hne l' hl, hl]
      rw [hcongr, List.filter_beq, List.count_eq_one_of_mem allLines_nodup ((mem_allLines l).2 hw)]
      rfl
  unfold pinEvents
  rw [hfilter]
  split <;> simp

/-- No line's registers changed, so there is no `PinEvent`. -/
theorem pinEvents_none (before after : Pins) (t : Nat)
    (h : ∀ l, after.dir l = before.dir l ∧ after.pin l = before.pin l) : pinEvents before after t = [] := by
  simp [pinEvents, h]

theorem busEvents_none (before after : Pins) (t : Nat) (hd : after.busDir = before.busDir)
    (hb : after.pinBus = before.pinBus) : busEvents before after t = [] := by
  simp [busEvents, hd, hb]

/-- `Addressed()` is the set of 41_transaction_sequencer.md R125. -/
theorem Pins.mem_addressed (p : Pins) (c : Nat) :
    c ∈ p.addressed ↔
      c < Config.nChips ∧ Config.grounded = .low ∧ p.pin .masterEn = .high ∧ p.pin (.cs (Config.csMap c)) = .high := by
  simp [Pins.addressed, addressedChips]

end Sys2Proof.Machine
end

