-- ==== Sys2Proof/Laws/Ops.lean ====
section
/-! SUPPORT. One lemma per shared operation that says everything it does to the trace, the faults and the arbiter
(`Laws/State.lean` has the fields it leaves alone): `Latch`, `Commit`, a line write, a bus write, a direction change. -/

namespace Sys2Proof.Machine

@[simp] theorem rateViolated_iff (s : State) : s.rateViolated = true ↔ s.now < s.arb.tFree := by
  simp [State.rateViolated]

@[simp] theorem setupViolated_iff (s : State) : s.setupViolated = true ↔ s.now - s.arb.tStable < Config.tSetup := by
  simp [State.setupViolated]

/-- A level cannot fall where it did not change. -/
theorem level_not_high_and_low (v : Level) : ¬(v = .high ∧ v = .low) := by cases v <;> simp

/-- The events a latch adds: the failed checks in order, then the latch event (41_transaction_sequencer.md R126). -/
theorem latch_trace (s : State) (o : Origin) :
    (s.latch o).trace = s.trace ++ ((if s.setupViolated then [Event.fault s.now .setup .plain] else []) ++
      ((if s.pins.pin .rw = .high then [Event.fault s.now .readStrobe .plain] else []) ++ [.latch (s.latchRecord o)])) := by
  simp [State.latch, List.append_assoc]

theorem latch_fault (s : State) (o : Origin) :
    (s.latch o).fault = (s.fault ||| if s.setupViolated then Cause.setup.mask else 0) |||
      if s.pins.pin .rw = .high then Cause.readStrobe.mask else 0 := by
  by_cases h1 : s.setupViolated <;> by_cases h2 : s.pins.pin .rw = .high <;> simp [State.latch, h1, h2]

@[simp] theorem stampStableIf_arb (s : State) (b : Bool) :
    (s.stampStableIf b).arb = { s.arb with tStable := if b then s.now else s.arb.tStable } := by
  unfold State.stampStableIf; split <;> rfl

theorem latchIf_trace (s : State) (b : Bool) (o : Origin) :
    (s.latchIf b o).trace = if b then (s.latch o).trace else s.trace := by
  unfold State.latchIf; split <;> rfl

theorem latchIf_fault (s : State) (b : Bool) (o : Origin) :
    (s.latchIf b o).fault = if b then (s.latch o).fault else s.fault := by
  unfold State.latchIf; split <;> rfl

theorem latchIf_arb (s : State) (b : Bool) (o : Origin) :
    (s.latchIf b o).arb = if b then (s.latch o).arb else s.arb := by
  unfold State.latchIf; split <;> rfl

/-- The arbiter after a `Commit` (40_pin_bus.md R103, 41_transaction_sequencer.md R126, R130). -/
theorem commit_arb (s : State) (before : Pins) (o : Origin) :
    (s.commit before o).arb =
      { tFree := if fallingEdge before s.pins then
            s.now + intervalOf (postDelayOf (modeOfLevel (s.pins.pin .mode))) else s.arb.tFree
        tStable := if modeOrBusMoved before s.pins then s.now else s.arb.tStable } := by
  simp only [State.commit, latchIf_arb]
  split <;> simp

/-- The trace after a `Commit` (40_pin_bus.md R103, 60_exceptions.md R225). -/
theorem commit_trace (s : State) (before : Pins) (o : Origin) :
    (s.commit before o).trace = s.trace ++ (pinEvents before s.pins s.now ++ (busEvents before s.pins s.now ++
      ((if (modeOrBusMoved before s.pins || strobeMoved before s.pins) && s.rateViolated then
          [Event.fault s.now .rate .plain] else []) ++
        (if fallingEdge before s.pins then
          (if decide (s.now - (if modeOrBusMoved before s.pins then s.now else s.arb.tStable) < Config.tSetup) then
            [Event.fault s.now .setup .plain] else []) ++
          ((if s.pins.pin .rw = .high then [Event.fault s.now .readStrobe .plain] else []) ++
            [.latch (s.latchRecord o)])
        else [])))) := by
  simp only [State.commit, latchIf_trace]
  split
  · simp [latch_trace, State.setupViolated, State.latchRecord, State.rateViolated, List.append_assoc]
  · simp [State.rateViolated, List.append_assoc]

/-- `FAULT` after a `Commit` (40_pin_bus.md R103, 60_exceptions.md R225). -/
theorem commit_fault (s : State) (before : Pins) (o : Origin) :
    (s.commit before o).fault =
      ((s.fault ||| if (modeOrBusMoved before s.pins || strobeMoved before s.pins) && s.rateViolated then
          Cause.rate.mask else 0) |||
        if fallingEdge before s.pins &&
            decide (s.now - (if modeOrBusMoved before s.pins then s.now else s.arb.tStable) < Config.tSetup) then
          Cause.setup.mask else 0) |||
        if fallingEdge before s.pins && decide (s.pins.pin .rw = .high) then Cause.readStrobe.mask else 0 := by
  simp only [State.commit, latchIf_fault]
  split
  · next h =>
    simp only [latch_fault, State.setupViolated, State.rateViolated, h, Bool.true_and]
    simp
    split <;> simp
  · next h =>
    simp [State.rateViolated, h]
    split <;> simp

/-- A line write on an output line (40_pin_bus.md R101). -/
theorem lineWrite_output (s : State) (l : Line) (v : Level) (o : Origin) (h : s.pins.dir l = .output) :
    s.lineWrite l v o = s.changePins (s.pins.setOut l v) o := by
  simp [State.lineWrite, h]

/-- A line write on a line that is not an output (40_pin_bus.md R101, 60_exceptions.md R221). -/
theorem lineWrite_input (s : State) (l : Line) (v : Level) (o : Origin) (h : s.pins.dir l = .input) :
    s.lineWrite l v o =
      { s with
        pins := s.pins.setOut l (Config.freeLevel s.draws)
        fault := s.fault ||| Cause.notOutput.mask
        trace := s.trace ++ [.fault s.now .notOutput (.designator (designatorOfLine l))]
        draws := s.draws + 1 } := by
  simp [State.lineWrite, h, State.raise]

/-- A bus write on an output bus (40_pin_bus.md R102). -/
theorem busWrite_output (s : State) (b : Byte) (o : Origin) (h : s.pins.busDir = .output) :
    s.busWrite b o = s.changePins (s.pins.setBusOut b) o := by
  simp [State.busWrite, h]

/-- A bus write on a bus that is not an output (40_pin_bus.md R102, 60_exceptions.md R221). -/
theorem busWrite_input (s : State) (b : Byte) (o : Origin) (h : s.pins.busDir = .input) :
    s.busWrite b o =
      { s with
        pins := s.pins.setBusOut (Config.freeByte s.draws)
        fault := s.fault ||| Cause.notOutput.mask
        trace := s.trace ++ [.fault s.now .notOutput (.designator busDesignator)]
        draws := s.draws + 1 } := by
  simp [State.busWrite, h, State.raise]

/-- Changing nothing that shows on a pin or a direction does nothing but set the registers (40_pin_bus.md R103). -/
theorem changePins_unseen (s : State) (p : Pins) (o : Origin)
    (hl : ∀ l, p.dir l = s.pins.dir l ∧ p.pin l = s.pins.pin l) (hd : p.busDir = s.pins.busDir)
    (hb : p.pinBus = s.pins.pinBus) : s.changePins p o = { s with pins := p } := by
  have hm : modeOrBusMoved s.pins p = false := by simp [modeOrBusMoved, hl, hb]
  have hs : strobeMoved s.pins p = false := by simp [strobeMoved, hl]
  have hf : fallingEdge s.pins p = false := by
    simp only [fallingEdge, (hl .e).2, decide_eq_false_iff_not]
    rintro ⟨h1, h2⟩
    rw [h1] at h2
    cases h2
  unfold State.changePins State.commit
  simp only [pinEvents_none _ _ _ hl, busEvents_none _ _ _ hd hb, hm, hs, hf, State.append, State.raiseIf,
    State.stampStableIf, State.latchIf]
  simp

end Sys2Proof.Machine
end

