-- ==== Sys2Proof/Laws/Events.lean ====
section
/-! SUPPORT. The times and kinds of the events, what `freeAfter` makes of a longer trace, what a bit of `FAULT` is after a
`raise`, and which events a pin change adds. -/

namespace Sys2Proof.Machine

section
variable (t : Nat) (l : Line) (d : Direction) (v : Level) (b : Byte) (r : LatchRecord) (k : DelayKind) (n : Nat)
  (c c' : Cause) (f : FaultDetail) (x : Bool)

@[simp] theorem Event.time_pin : (Event.pin t l d v).time = t := rfl
@[simp] theorem Event.time_bus : (Event.bus t d b).time = t := rfl
@[simp] theorem Event.time_latch : (Event.latch r).time = r.time := rfl
@[simp] theorem Event.time_delay : (Event.delay t k n).time = t := rfl
@[simp] theorem Event.time_fault : (Event.fault t c f).time = t := rfl
@[simp] theorem Event.time_tickRead : (Event.tickRead t x).time = t := rfl
@[simp] theorem Event.time_dutyWrite : (Event.dutyWrite t b).time = t := rfl
@[simp] theorem Event.time_initDone : (Event.initDone t).time = t := rfl

@[simp] theorem Event.isLatch_pin : (Event.pin t l d v).isLatch = false := rfl
@[simp] theorem Event.isLatch_bus : (Event.bus t d b).isLatch = false := rfl
@[simp] theorem Event.isLatch_latch : (Event.latch r).isLatch = true := rfl
@[simp] theorem Event.isLatch_delay : (Event.delay t k n).isLatch = false := rfl
@[simp] theorem Event.isLatch_fault : (Event.fault t c f).isLatch = false := rfl
@[simp] theorem Event.isLatch_tickRead : (Event.tickRead t x).isLatch = false := rfl
@[simp] theorem Event.isLatch_dutyWrite : (Event.dutyWrite t b).isLatch = false := rfl
@[simp] theorem Event.isLatch_initDone : (Event.initDone t).isLatch = false := rfl

@[simp] theorem Event.isFault_pin : (Event.pin t l d v).isFault c = false := rfl
@[simp] theorem Event.isFault_bus : (Event.bus t d b).isFault c = false := rfl
@[simp] theorem Event.isFault_latch : (Event.latch r).isFault c = false := rfl
@[simp] theorem Event.isFault_delay : (Event.delay t k n).isFault c = false := rfl
@[simp] theorem Event.isFault_fault : (Event.fault t c' f).isFault c = decide (c' = c) := rfl
@[simp] theorem Event.isFault_tickRead : (Event.tickRead t x).isFault c = false := rfl
@[simp] theorem Event.isFault_dutyWrite : (Event.dutyWrite t b).isFault c = false := rfl
@[simp] theorem Event.isFault_initDone : (Event.initDone t).isFault c = false := rfl

end

/-- A trace that ends in a latch event is free after that event's delay. -/
theorem freeAfter_append_latch (es : List Event) (r : LatchRecord) :
    freeAfter (es ++ [.latch r]) = r.time + intervalOf (postDelayOf r.mode) := by
  induction es with
  | nil => rfl
  | cons e es ih => cases e <;> simp [freeAfter, ih]

/-- Events that are no latch events do not change when the trace is free. -/
theorem freeAfter_append_of_no_latch (es new : List Event) (h : new.any Event.isLatch = false) :
    freeAfter (es ++ new) = freeAfter es := by
  induction es with
  | nil =>
    induction new with
    | nil => rfl
    | cons e new ih => cases e <;> simp_all [freeAfter]
  | cons e es ih => cases e <;> simp [freeAfter, ih, List.any_append, h]

/-- After `raise` the cause's bit is set and the others are as before (60_exceptions.md R222). -/
theorem faulted_or_mask (f : BitVec 6) (c c' : Cause) :
    (f ||| c.mask).getLsbD c'.code = (f.getLsbD c'.code || decide (c' = c)) := by
  rw [BitVec.getLsbD_or]
  congr 1
  cases c <;> cases c' <;> decide

/-- The events a pin change adds happen at `NOW`. -/
theorem changePins_trace (s : State) (p : Pins) (o : Origin) :
    ∃ new, (s.changePins p o).trace = s.trace ++ new ∧ ∀ e ∈ new, e.time = s.now := by
  simp only [State.changePins, commit_trace]
  refine ⟨_, rfl, fun e he => ?_⟩
  simp only [List.mem_append] at he
  rcases he with he | he | he | he
  · simp [pinEvents] at he
    obtain ⟨l, _, rfl⟩ := he
    rfl
  · simp [busEvents] at he
    rw [he.2]
    rfl
  · simp at he
    rw [he.2]
    rfl
  · split at he
    · simp at he
      rcases he with ⟨_, rfl⟩ | ⟨_, rfl⟩ | rfl <;> rfl
    · simp at he

end Sys2Proof.Machine
end

