-- ==== Sys2Proof/Laws/PerInstr.lean ====
section
/-! SUPPORT. Statements made of every operation as syntax, one lemma per constructor. -/

namespace Sys2Proof.Laws

namespace TableRow

/-- The mask and the match of the row of the opcode table (30_encoding.md R83, R88). -/
def row : Instr → Word × Word
  | .cfgdir _ _ => (0xFE00#16, 0x1000#16)
  | .wrline _ _ => (0xFE00#16, 0x2000#16)
  | .wrbus _ => (0xFF00#16, 0x3000#16)
  | .exec _ _ => (0xFE00#16, 0x4000#16)
  | .wrbyte _ => (0xFF00#16, 0x4100#16)
  | .setc _ => (0xFF00#16, 0x5000#16)
  | .pwminit => (0xFFFF#16, 0x6000#16)
  | .wait _ => (0xFF00#16, 0x7000#16)
  | .init => (0xFFFF#16, 0x8000#16)
  | .rdtick => (0xFFFF#16, 0x9000#16)
  | .clrtick => (0xFFFF#16, 0xA000#16)

/-- The word of the operation selects its own row of the opcode table, whatever the operands (30_encoding.md R81,
R83). -/
def Statement (i : Instr) : Prop := encode i &&& (row i).1 = (row i).2

/-- A mask that leaves out bit 8 and the low byte. -/
theorem layout_and_fe00 (op : BitVec 4) (v : Bool) (x : Byte) :
    layout op v x &&& 0xFE00#16 = layout op false 0#8 := by
  have h : (0xFE00#16 : Word) = 0xF#4 ++ (0b111#3 ++ (0#1 ++ 0#8)) := by decide
  have h4 : op &&& 0xF#4 = op := BitVec.and_allOnes
  rw [h, layout, layout, BitVec.and_append, BitVec.and_append, BitVec.and_append, h4]
  simp

/-- A mask that leaves out the low byte. -/
theorem layout_and_ff00 (op : BitVec 4) (v : Bool) (x : Byte) :
    layout op v x &&& 0xFF00#16 = layout op v 0#8 := by
  have h : (0xFF00#16 : Word) = 0xF#4 ++ (0b111#3 ++ (1#1 ++ 0#8)) := by decide
  have h4 : op &&& 0xF#4 = op := BitVec.and_allOnes
  rw [h, layout, layout, BitVec.and_append, BitVec.and_append, BitVec.and_append, h4]
  cases v <;> simp

theorem cfgdir (t : Target) (d : Direction) : Statement (.cfgdir t d) := layout_and_fe00 _ _ _
theorem wrline (l : Line) (v : Level) : Statement (.wrline l v) := layout_and_fe00 _ _ _
theorem wrbus (b : Byte) : Statement (.wrbus b) := layout_and_ff00 _ _ _
theorem exec (b : Byte) (m : Mode) : Statement (.exec b m) := layout_and_fe00 _ _ _
theorem wrbyte (b : Byte) : Statement (.wrbyte b) := layout_and_ff00 _ _ _
theorem setc (v : Byte) : Statement (.setc v) := layout_and_ff00 _ _ _
theorem pwminit : Statement .pwminit := rfl
theorem wait (k : DelayKind) : Statement (.wait k) := layout_and_ff00 _ _ _
theorem init : Statement .init := rfl
theorem rdtick : Statement .rdtick := rfl
theorem clrtick : Statement .clrtick := rfl

end TableRow

end Sys2Proof.Laws
end

