-- ==== Sys2Proof/Laws/Step.lean ====
section
/-! SUPPORT. What a step can do, said once: a step is a reset or one of the actions below, on the state with the turn and
the host's word used up. Every invariant and whole-machine rule follows by cases on `Acts`. -/

namespace Sys2Proof.Machine

/-- The actions a turn other than a reset can take. -/
inductive Acts (s : State) : State → Prop where
  | waits (hb : s.busy = false) : Acts s s
  | ownTime (hb : s.busy = false) : Acts s s.stepTime
  | illegal (w : Word) (why : Illegal) (hb : s.busy = false) (hw : decode w = .error why) : Acts s (s.illegalWord w)
  | operation (i : Instr) (t : State) (hb : s.busy = false) (hi : i.wellFormed = true) (he : exec i s = .next t) :
      Acts s t
  | phase (hp : s.seq.phase ≠ .idle) : Acts s (phaseStep s)
  | waitEnds (hp : s.seq.phase = .idle) (hw : s.waitActive = true) : Acts s (endWait s)
  | initOp (i : Instr) (hp : s.seq.phase = .idle) (hw : s.waitActive = false) (hr : s.ini.status = .running)
      (hi : i ∈ initOps s.ini.step) :
      Acts s (perform .init i { s with ini := { s.ini with op := s.ini.op + 1 } })
  | initStepEnds (hp : s.seq.phase = .idle) (hw : s.waitActive = false) (hr : s.ini.status = .running) :
      Acts s (endInitStep s)
  | generator : Acts s (genStep s)
  | tick : Acts s (tickEvent s)

/-- A word the decoder accepts is a well-formed operation. -/
theorem decode_wellFormed (w : Word) (i : Instr) (h : decode w = .ok i) : i.wellFormed = true := by
  have hline : ∀ (d : Byte) (l : Line), lineOfDesignator d = some l → l.wellFormed = true := by
    intro d l hl
    unfold lineOfDesignator at hl
    split at hl
    all_goals first
      | (cases hl; rfl)
      | (split at hl
         · next hn => cases hl; simp only [Line.wellFormed, decide_eq_true_eq]; omega
         · cases hl)
  have hop : ∀ {α : Type} (why : Illegal) (x : Option α) (f : α → Instr),
      operandOr why x f = .ok i → ∃ a, x = some a ∧ f a = i := by
    intro α why x f hx
    cases x with
    | none => cases hx
    | some a => exact ⟨a, rfl, by cases hx; rfl⟩
  have hz : ∀ (v : Bool) (x : Except Illegal Instr), withBitEightZero v x = .ok i → x = .ok i := by
    intro v x hx
    cases v
    · exact hx
    · cases hx
  have hl0 : ∀ (d : Byte) (j : Instr), withLowByteZero d j = .ok i → j = i := by
    intro d j hx
    unfold withLowByteZero at hx
    split at hx <;> cases hx
    rfl
  unfold decode at h
  split at h
  · split at h
    · unfold decodeOperands at h
      split at h
      · obtain ⟨t, ht, rfl⟩ := hop _ _ _ h
        unfold targetOfDesignator at ht
        split at ht
        · cases ht; rfl
        · obtain ⟨l, hl, rfl⟩ := Option.map_eq_some_iff.1 ht
          exact hline _ l hl
      · obtain ⟨l, hl, rfl⟩ := hop _ _ _ h
        exact hline _ l hl
      · cases hz _ _ h; rfl
      · cases h; rfl
      · cases hz _ _ h; rfl
      · rw [← hl0 _ _ (hz _ _ h)]; rfl
      · obtain ⟨k, _, rfl⟩ := hop _ _ _ (hz _ _ h); rfl
      · rw [← hl0 _ _ (hz _ _ h)]; rfl
      · rw [← hl0 _ _ (hz _ _ h)]; rfl
      · rw [← hl0 _ _ (hz _ _ h)]; rfl
      · cases h
    · cases h
  · cases h

/-- Every operation of an initialization step is well formed and is not `INIT`, `RDTICK`, `CLRTICK` or `WRBYTE`. -/
theorem initOps_forms (n : Fin 11) (i : Instr) (h : i ∈ initOps n) :
    i.wellFormed = true ∧ i ≠ .init ∧ i ≠ .rdtick ∧ i ≠ .clrtick ∧ ∀ b, i ≠ .wrbyte b := by
  fin_cases n <;> simp only [initOps, List.mem_cons, List.not_mem_nil, or_false] at h <;>
    rcases h with rfl | rfl | rfl | rfl | rfl | rfl | rfl | rfl <;>
    simp_all [Instr.wellFormed, Target.wellFormed, Line.wellFormed]

/-- Every operation but `INIT`, issued by the host, is its body with origin `Raw`. -/
theorem exec_eq_perform (i : Instr) (s : State) (hi : i.wellFormed = true) (hn : i ≠ .init) :
    exec i s = .next (perform .raw i s) := by
  cases i with
  | init => exact absurd rfl hn
  | cfgdir t d => exact if_pos hi
  | wrline l v => exact if_pos hi
  | _ => rfl

theorem busy_host (s : State) (ha : HostAgent) : ({ s with host := ha } : State).busy = s.busy := rfl

/-- A step is a reset, or an action on the state with the turn and the host's word used up. -/
theorem step_cases {s t : State} (h : step s = .next t) :
    (∃ ts, s.turns = .reset :: ts ∧ t = resetBlock { s with turns := ts }) ∨
    (∀ ts, s.turns ≠ .reset :: ts) ∧ ∃ u, (∃ ts ha, u = { s with turns := ts, host := ha }) ∧ Acts u t := by
  have hword : ∀ (w : Word) (u : State), u.busy = false → runWord w u = .next t → Acts u t := by
    intro w u hb hr
    unfold runWord at hr
    split at hr
    · next i hi => exact .operation i t hb (decode_wellFormed w i hi) hr
    · next why hw => cases hr; exact .illegal w why hb hw
  have hmain : ∀ u : State, mainStep u = .next t → ∃ ha, Acts { u with host := ha } t := by
    intro u hu
    unfold mainStep at hu
    split at hu
    · next hbusy =>
      refine ⟨u.host, ?_⟩
      cases hu
      unfold sequencerStep
      split
      · next hp => exact .phase hp
      · next hp =>
        have hp' : u.seq.phase = .idle := by simpa using hp
        split
        · next hw => exact .waitEnds hp' hw
        · next hw =>
          have hw' : u.waitActive = false := by simpa using hw
          split
          · next hr =>
            unfold initStep
            split
            · next i hi => exact .initOp i hp' hw' hr (List.mem_of_getElem? hi)
            · exact .initStepEnds hp' hw' hr
          · next hr => simp [State.busy, hp', hw', hr] at hbusy
    · next hbusy =>
      have hb : u.busy = false := by simpa using hbusy
      unfold hostStep at hu
      split at hu
      · exact ⟨u.host, by cases hu; exact .waits hb⟩
      · next w ws _ => exact ⟨.stream ws, hword w { u with host := .stream ws } ((busy_host u _).trans hb) hu⟩
      · split at hu
        · next w c' _ => exact ⟨.loop c', hword w { u with host := .loop c' } ((busy_host u _).trans hb) hu⟩
        · next c' _ =>
          have ht : ({ u with host := .loop c' } : State).stepTime = t := by injection hu
          exact ⟨.loop c', ht ▸ .ownTime ((busy_host u _).trans hb)⟩
  unfold step turnStep at h
  split at h
  · next ht =>
    obtain ⟨ha, hact⟩ := hmain s h
    exact .inr ⟨by simp [ht], _, ⟨s.turns, ha, rfl⟩, hact⟩
  · next ts ht =>
    obtain ⟨ha, hact⟩ := hmain _ h
    exact .inr ⟨by simp [ht], _, ⟨ts, ha, rfl⟩, hact⟩
  · next ts ht => cases h; exact .inr ⟨by simp [ht], _, ⟨ts, s.host, rfl⟩, .generator⟩
  · next ts ht => cases h; exact .inr ⟨by simp [ht], _, ⟨ts, s.host, rfl⟩, .tick⟩
  · next ts ht => cases h; exact .inl ⟨ts, ht, rfl⟩

/-- A reflexive and transitive relation that every primitive update satisfies holds across every action. An invariant
`I` is the relation `fun s t => I s → I t`. -/
theorem acts_rel (R : State → State → Prop)
    (refl : ∀ s, R s s) (trans : ∀ {a b c}, R a b → R b c → R a c)
    (time : ∀ s, R s s.stepTime) (sleep : ∀ s k, R s (s.sleep k))
    (raise : ∀ s c d, R s (s.raise c d))
    (change : ∀ s p o, R s (s.changePins p o))
    (draw : ∀ (s : State) p n, R s { s with pins := p, draws := n })
    (seq : ∀ (s : State) q n, R s { s with seq := q, draws := n })
    (wait : ∀ (s : State) b, R s { s with waitActive := b })
    (pwm : ∀ (s : State) p, R s { s with pwm := p })
    (tick : ∀ (s : State) b, R s { s with tick := b })
    (resp : ∀ (s : State) b, R s { s with response := b })
    (op : ∀ (s : State) n, R s { s with ini := { s.ini with op := n } })
    (duty : ∀ (s : State) v, R s (s.append [.dutyWrite s.now v]))
    (tread : ∀ (s : State) v, R s (s.append [.tickRead s.now v]))
    (begi : ∀ s : State, s.ini.status = .notStarted → R s (beginInit s))
    (endi : ∀ s : State, s.ini.status = .running → R s (endInitStep s))
    {s t : State} (h : Acts s t) : R s t := by
  have hl : ∀ (s : State) l v o, R s (s.lineWrite l v o) := by
    intro s l v o
    unfold State.lineWrite
    split
    · exact change _ _ _
    · exact trans (raise _ _ _) (draw _ _ _)
  have hb : ∀ (s : State) v o, R s (s.busWrite v o) := by
    intro s v o
    unfold State.busWrite
    split
    · exact change _ _ _
    · exact trans (raise _ _ _) (draw _ _ _)
  have hperf : ∀ o i (s : State), R s (perform o i s) := by
    intro o i s
    cases i with
    | cfgdir t d => exact trans (time s) (change _ _ _)
    | wrline l v => exact trans (time s) (hl _ _ _ _)
    | wrbus b => exact trans (time s) (hb _ _ _)
    | exec b m => exact seq s _ _
    | wrbyte b => exact seq s _ _
    | setc v => exact trans (trans (time s) (pwm _ _)) (duty _ _)
    | pwminit => exact trans (time s) (pwm _ _)
    | wait k => exact trans (wait s _) (sleep _ _)
    | init => exact refl s
    | rdtick => exact trans (trans (time s) (tread _ _)) (resp _ _)
    | clrtick => exact trans (time s) (tick _ _)
  cases h with
  | waits _ => exact refl s
  | ownTime _ => exact time s
  | illegal w why _ _ => exact trans (time s) (raise _ _ _)
  | operation i t hbz hi he =>
    by_cases hn : i = .init
    · subst hn
      simp only [exec, execInit] at he
      split at he
      · next h => cases he; exact begi s h
      · cases he; exact raise _ _ _
    · rw [exec_eq_perform i s hi hn] at he
      cases he; exact hperf _ _ _
  | phase hp =>
    unfold phaseStep
    split
    · exact refl s
    · exact trans (time s) (trans (hl _ _ _ _) (seq _ _ _))
    · exact trans (time s) (trans (hl _ _ _ _) (seq _ _ _))
    · exact trans (time s) (trans (hb _ _ _) (seq _ _ _))
    · exact trans (sleep _ _) (seq _ _ _)
    · exact trans (time s) (trans (hl _ _ _ _) (seq _ _ _))
    · exact trans (sleep _ _) (seq _ _ _)
  | waitEnds _ _ => exact wait _ _
  | initOp i _ _ _ _ => exact trans (op s _) (hperf _ _ _)
  | initStepEnds _ _ hr => exact endi s hr
  | generator => exact pwm _ _
  | tick => exact tick _ _

end Sys2Proof.Machine
end

