-- ==== Sys2Proof/Tests/Slice0.lean ====
section
/-! SUPPORT. The model's own tests: ill-formed terms refused, words written out bit by bit from the formats of
30_encoding.md R81, single steps against spec/95_test_vectors.md (each test names its vector), and for every obligation
with hypotheses a named witness that meets them. -/

namespace Sys2Proof.Tests

open Sys2Proof Sys2Proof.Machine

/-! ### Helpers -/

/-- The state an outcome goes on to. -/
def landed (o : Host.Outcome State Fault Refusal) : Option State :=
  match o with
  | .next s => some s
  | .fault _ => none
  | .refused _ => none

/-- An output line at a level. -/
def driving (v : Level) : LineReg := { dir := .output, out := v }

/-- The pins as initialization leaves them (43_init_sequencer.md R186). -/
def pinsI : Pins :=
  { lines :=
      { Pins.reset.lines with
        contrastEn := driving .low, reset := driving .high, masterEn := driving .high, e := driving .low,
        rw := driving .low, mode := driving .low }
    busDir := .output
    busOut := 0x00#8 }

/-- "State I" of 95_test_vectors.md at a time at which `T_FREE` and `T_STABLE + T_SETUP` are past. -/
def stateI : State :=
  { State.reset with
    pins := pinsI
    ini := { status := .ready, step := 0, op := 0 }
    now := 35003000
    arb := { tFree := 35003000, tStable := 30002000 } }

/-- State I with the `E` line driven high. -/
def stateEHigh : State := { stateI with pins := pinsI.setOut .e .high }

/-- A steady generator at `DUTY = d` and `CNT = c` with its output high. -/
def steady (d : Byte) (c : BitVec 10) : Pwm :=
  { wgm := .upCount, com := .clearOnMatchSetAtTop, clk := .undivided, top := 1023#10, duty := d, cnt := c, out := .high }

/-- The reference host at a place of its program, in state I. -/
def loopAt (p : LoopPlace) (cursor : Byte) (inbox : List (Option Byte)) : State :=
  { stateI with host := .loop { ControlLoop.start [] [] inbox with place := p, cursor := cursor, contrast := 0x10#8 } }

/-! ### WellFormed refuses ill-formed terms (30_encoding.md R84: `N_CS = 1`) -/

theorem test_wf_cfgdir_cs1 : (Instr.cfgdir (.line (.cs 1)) .output).wellFormed = false := by decide
theorem test_wf_wrline_cs1 : (Instr.wrline (.cs 1) .high).wellFormed = false := by decide
theorem test_wf_cs0 : (Instr.wrline (.cs 0) .high).wellFormed = true := by decide

/-! ### Decoding words written out from the formats of 30_encoding.md R81 (95_test_vectors.md V30) -/

theorem test_decode_cfgdir : decode 0b0001_000_1_00010000#16 = .ok (.cfgdir .bus .output) := by decide
theorem test_decode_cfgdir_input : decode 0b0001_000_0_00000100#16 = .ok (.cfgdir (.line .e) .input) := by decide
theorem test_decode_wrline : decode 0b0010_000_1_00000110#16 = .ok (.wrline .mode .high) := by decide
theorem test_decode_wrline_cs : decode 0b0010_000_1_00100000#16 = .ok (.wrline (.cs 0) .high) := by decide
theorem test_decode_wrbus : decode 0b0011_000_0_01010101#16 = .ok (.wrbus 0x55#8) := by decide
theorem test_decode_exec : decode 0b0100_000_0_00111001#16 = .ok (.exec 0x39#8 .command) := by decide
theorem test_decode_wrbyte : decode 0b0100_000_1_11111111#16 = .ok (.exec 0xFF#8 .data) := by decide
theorem test_decode_setc : decode 0b0101_000_0_11111111#16 = .ok (.setc 0xFF#8) := by decide
theorem test_decode_pwminit : decode 0b0110_000_0_00000000#16 = .ok .pwminit := by decide
theorem test_decode_wait : decode 0b0111_000_0_00000010#16 = .ok (.wait .postCmd) := by decide
theorem test_decode_init : decode 0b1000_000_0_00000000#16 = .ok .init := by decide
theorem test_decode_rdtick : decode 0b1001_000_0_00000000#16 = .ok .rdtick := by decide
theorem test_decode_clrtick : decode 0b1010_000_0_00000000#16 = .ok .clrtick := by decide

/-- 20_memory.md R61: every designator of the map. -/
theorem test_designators :
    [0x00#8, 0x01#8, 0x02#8, 0x03#8, 0x04#8, 0x05#8, 0x06#8, 0x20#8].map lineOfDesignator
      = [some .led, some .contrastEn, some .reset, some .masterEn, some .e, some .rw, some .mode, some (.cs 0)] := by
  decide

/-- V30: its illegal words, each for its reason. -/
theorem test_illegal_words :
    [0x1121#16, 0x1107#16, 0x1300#16, 0x2110#16, 0x3155#16, 0x4239#16, 0x5100#16, 0x6001#16, 0x7004#16, 0x7103#16,
      0x0000#16, 0xB000#16, 0xF000#16, 0xFFFF#16].map (fun w => (decode w).toOption) = List.replicate 14 none := by
  decide

/-- R90: the order of the checks: opcode, then `W[11:9]`, then `W[8]`, then the low byte. -/
theorem test_check_order :
    decode 0xFFFF#16 = .error .opcode ∧ decode 0x33FF#16 = .error .reservedBits ∧ decode 0x71FF#16 = .error .bitEight ∧
    decode 0x70FF#16 = .error .delayCode := by decide

/-- R181: the words of the operations of `INIT`, with `CONTRAST_INIT` left out of step 3's second word. -/
theorem test_init_words :
    (([1, 2].map fun n => (initOps n).map encode) = [[0x1110#16, 0x3000#16],
      [0x1106#16, 0x1105#16, 0x1104#16, 0x1101#16, 0x2006#16, 0x2005#16, 0x2004#16, 0x2001#16]]) ∧
    (([4, 5, 6, 7, 8, 9, 10].map fun n => (initOps n).map encode) = [[0x7003#16], [0x1102#16, 0x2102#16],
      [0x1103#16, 0x2103#16], [0x2005#16], [0x4039#16], [0x403A#16], [0x4000#16]]) := by decide

/-- R181: step 3 is 0x6000 and `0x5000 + CONTRAST_INIT`. -/
theorem test_init_words_step3 :
    (initOps 3).map encode = [0x6000#16, 0x50#8 ++ Config.contrastInit] := by
  have h : ∀ c : Byte, encode (.setc c) = 0x50#8 ++ c := by decide
  exact congrArg (fun w => [0x6000#16, w]) (h _)

/-- The decoder reads the table's words, and the next step after `withFetchWord` runs exactly that operation. -/
theorem test_fetch_word :
    decodeTableWord 16 0x7003 = some (.wait .settle) ∧
    step (State.reset.withFetchWord 16 0x7003) = exec (.wait .settle) State.reset := ⟨by decide, rfl⟩

/-- 20_memory.md R63: a word of other than 16 bits cannot be presented. -/
theorem test_only_sixteen_bits :
    decodeTableWord 8 0x8000 = none ∧ decodeTableWord 16 0x18000 = none ∧ decodeTableWord 17 0x8000 = none ∧
    decodeTableWord 16 0x8000 = some .init := by decide

/-! ### One step each, against 95_test_vectors.md -/

/-- V40.1: from reset `CFGDIR E, Output` drives `E` low, appends one pin event and raises nothing. -/
theorem test_cfgdir_from_reset :
    (landed (exec (.cfgdir (.line .e) .output) State.reset)).map
        (fun t => (t.pins.dir .e, t.pins.pin .e, t.fault, t.trace)) =
      some (.output, .low, 0#6, [.pin (0 + Config.freeTime 0) .e .output .low]) := rfl

/-- V40.4: `CFGDIR BUS, Output` from reset appends a bus event and leaves `T_STABLE`. -/
theorem test_cfgdir_bus_from_reset :
    (landed (exec (.cfgdir .bus .output) State.reset)).map (fun t => (t.pins.busDir, t.trace, t.arb.tStable)) =
      some (.output, [.bus (0 + Config.freeTime 0) .output 0x00#8], 0) := rfl

/-- V40.2: `WRLINE E, 1` from reset raises `F_NOT_OUTPUT`; the pin stays 0. -/
theorem test_wrline_from_reset :
    (landed (exec (.wrline .e .high) State.reset)).map (fun t => (t.fault, t.pins.dir .e, t.pins.pin .e)) =
      some (0b000010#6, .input, .low) := rfl

/-- V40.7's last edge, by `WRLINE`: `E` falls long after the last change, so the latch event shows Command, the bus byte
0x00 and the lines, and nothing is raised; `T_FREE` is `T_POST_CMD` after it. -/
theorem test_wrline_latches :
    (landed (exec (.wrline .e .low) stateEHigh)).map (fun t => (t.pins.pin .e, t.arb.tFree)) =
      some (.low, 35003000 + Config.freeTime 0 + 5000000) := by
  show some (_, (wrlineBody .e .low .raw stateEHigh).arb.tFree) = _
  rw [wrlineBody, lineWrite_output _ _ _ _ rfl, State.changePins, commit_arb, commit_pins]
  rfl

/-- V41.5 and V41.8: with the bus changed at the very time of the edge and `RW` high, a fall of `E` raises `F_SETUP` and
`F_READ_STROBE`, and not `F_RATE`. -/
theorem test_setup_and_read_strobe :
    (landed (exec (.wrline .e .low)
        { stateEHigh with
          pins := (pinsI.setOut .e .high).setOut .rw .high
          arb := { tFree := 0, tStable := 35003000 + Config.freeTime 0 } })).map (fun t => t.fault) =
      some 0b010100#6 := by
  show some (wrlineBody .e .low .raw _).fault = _
  rw [wrlineBody, lineWrite_output _ _ _ _ rfl, State.changePins, commit_fault]
  have hf : fallingEdge ((pinsI.setOut .e .high).setOut .rw .high)
      (((pinsI.setOut .e .high).setOut .rw .high).setOut .e .low) = true := by decide
  have hm : modeOrBusMoved ((pinsI.setOut .e .high).setOut .rw .high)
      (((pinsI.setOut .e .high).setOut .rw .high).setOut .e .low) = false := by decide
  have hr : (((pinsI.setOut .e .high).setOut .rw .high).setOut .e .low).pin .rw = .high := by decide
  have hd : State.reset.draws = 0 := rfl
  simp [State.rateViolated, stateEHigh, stateI, hf, hm, hr, hd, Config.tSetup]
  decide

/-- V40.3: `WRBUS 0x55` from reset raises `F_NOT_OUTPUT`; the pins stay 0x00. -/
theorem test_wrbus_from_reset :
    (landed (exec (.wrbus 0x55#8) State.reset)).map (fun t => (t.fault, t.pins.pinBus)) =
      some (0b000010#6, 0x00#8) := rfl

/-- V40.5: `WRBUS 0xA5` in state I: the byte on the pins and `T_STABLE = NOW`. -/
theorem test_wrbus_in_state_i :
    (landed (exec (.wrbus 0xA5#8) stateI)).map (fun t => (t.pins.pinBus, t.arb.tStable)) =
      some (0xA5#8, 35003000 + Config.freeTime 0) := by
  show some (_, (wrbusBody 0xA5#8 .raw stateI).arb.tStable) = _
  rw [wrbusBody, busWrite_output _ _ _ rfl, State.changePins, commit_arb, commit_pins]
  rfl

/-- R122: `EXEC 0x39, Command` is accepted with phase 1. -/
theorem test_exec_accepts :
    (landed (exec (.exec 0x39#8 .command) stateI)).map (fun t => (t.seq, t.busy)) =
      some ({ mode := .command, payload := 0x39#8, phase := .p1 }, true) := rfl

/-- V41.2's first pin event: phase 1 of a Data transaction raises `MODE` (R121: `Data` is 1). -/
theorem test_exec_phase_one :
    (phaseStep (beginExec 0x41#8 .data stateI)).pins.pin .mode = .high ∧
    (phaseStep (beginExec 0x41#8 .data stateI)).seq.phase = .p2 := by
  constructor
  · show ((beginExec 0x41#8 .data stateI).stepTime.lineWrite .mode .high .exec).pins.pin .mode = _
    rw [lineWrite_output _ _ _ _ rfl, changePins_pins]
    rfl
  · rfl

/-- R124: `WRBYTE 0x07` is `EXEC 0x07, Data`. -/
theorem test_wrbyte :
    (landed (exec (.wrbyte 0x07#8) stateI)).map (fun t => t.seq) =
      some { mode := .data, payload := 0x07#8, phase := .p1 } := rfl

/-- V41.9: the reference wiring addresses all chips when `MASTER_EN` is high, none when it is low. -/
theorem test_addressed_reference :
    pinsI.addressed = List.range Config.nChips ∧ (pinsI.setOut .masterEn .low).addressed = [] := by
  constructor
  · exact List.filter_eq_self.2 fun _ _ => rfl
  · exact List.filter_eq_nil_iff.2 fun _ _ h => nomatch h

/-- V41.9: three chips on three select lines, `CS[0], CS[1], CS[2]` = 1, 0, 1. -/
theorem test_addressed_per_chip :
    addressedChips 3 id .high (fun k => if k = 1 then .low else .high) = [0, 2] ∧
    addressedChips 3 id .low (fun k => if k = 1 then .low else .high) = [] := by decide

/-- R151's example: `PWMINIT` from reset. -/
theorem test_pwminit :
    (landed (exec .pwminit State.reset)).map (fun t => (t.pwm.run, t.pwm.top, t.pwm.cnt, t.pwm.out, t.pwm.duty)) =
      some (true, 1023#10, 0#10, .low, 0x00#8) := rfl

/-- V42.2: `SETC 0x80` before `PWMINIT` writes `DUTY`, and the generator does not move. -/
theorem test_setc_not_running :
    (landed (exec (.setc 0x80#8) State.reset)).map (fun t => (t.pwm.duty, t.trace, t.pwm.run, t.pwm.clock == t.pwm)) =
      some (0x80#8, [.dutyWrite (0 + Config.freeTime 0) 0x80#8], false, true) := rfl

/-- V42.1, steps 1024 to 1027: wrap and set at top; clear on the step that finds `CNT = DUTY = 2`. -/
theorem test_generator :
    ({ steady 0x02#8 1023#10 with out := .low } : Pwm).clock = steady 0x02#8 0#10 ∧
    (steady 0x02#8 1#10).clock = steady 0x02#8 2#10 ∧
    (steady 0x02#8 2#10).clock = { steady 0x02#8 3#10 with out := .low } := by decide

/-- V43.1: `WAIT Settle` appends its delay event at the old `NOW` and makes the block busy. -/
theorem test_wait :
    (landed (exec (.wait .settle) State.reset)).map (fun t => (t.trace, t.now, t.busy)) =
      some ([.delay 0 .settle 20000000], 0 + (20000000 + Config.freeTime 0), true) := rfl

/-- R180: `INIT` from reset starts step 1, whose first operation is `CFGDIR BUS, Output`. -/
theorem test_init_begins :
    (landed (exec .init State.reset)).map (fun t => (t.ini, t.busy, (sequencerStep t).pins.busDir)) =
      some ({ status := .running, step := 1, op := 0 }, true, .output) := rfl

/-- V43.3: a second `INIT` raises `F_REINIT` and stays `Ready`. -/
theorem test_init_again :
    (landed (exec .init stateI)).map (fun t => (t.fault, t.trace, t.ini.status)) =
      some (0b100000#6, [.fault 35003000 .reinit .plain], .ready) := rfl

/-- V44.1: `RDTICK` returns the flag and leaves it. -/
theorem test_rdtick :
    (landed (exec .rdtick { stateI with tick := true })).map (fun t => (t.response, t.tick)) = some (some true, true) :=
  rfl

/-- V44.1: `CLRTICK` clears the flag. -/
theorem test_clrtick : (landed (exec .clrtick { stateI with tick := true })).map (fun t => t.tick) = some false := rfl

/-- V60: the word 0x0000 from reset sets `FAULT` bit 0 and changes no pin. -/
theorem test_illegal_word :
    (landed (runWord 0x0000#16 State.reset)).map (fun t => (t.fault, t.pins == State.reset.pins, t.busy)) =
      some (0b000001#6, true, false) := rfl

/-- V42.6: contrast arithmetic. -/
theorem test_contrast_arithmetic :
    contrastAfter 3 0x10#8 = 0x28#8 ∧ contrastAfter 30 0x10#8 = 0x00#8 ∧ contrastAfter 1 0xFC#8 = 0x04#8 := by decide

/-! ### Witnesses: for every obligation with hypotheses, a state and operands that meet them -/

/-- The block after reset with one host word to accept. -/
def booting : State := { State.reset with host := .stream [0x8000#16] }

/-- Phase 5 about to lower `E`, the setup time just over. -/
def atPhaseFive : State :=
  { stateEHigh with seq := { mode := .command, payload := 0x39#8, phase := .p5 }, arb := { tFree := 0, tStable := 35002000 } }

theorem witness_DecodeInvertsEncode : (Instr.cfgdir (.line (.cs 0)) .output).wellFormed = true := by decide

theorem witness_EncodeInvertsDecode : decode 0x1120#16 = .ok (.cfgdir (.line (.cs 0)) .output) := by decide

/-- Each clause of R85 at its boundary, and the legal words next to it. -/
theorem witness_IllegalWordsAreExactlyTheRules :
    ([0x0FFF#16, 0xB000#16, 0x1200#16, 0x3100#16, 0x7100#16, 0xA100#16, 0x6001#16, 0x1007#16, 0x1011#16, 0x1021#16,
      0x2007#16, 0x2010#16, 0x2021#16, 0x7004#16].map fun w => (decode w).toOption) = List.replicate 14 none ∧
    ([0x1006#16, 0x1010#16, 0x1120#16, 0x2106#16, 0x2020#16, 0x7003#16, 0x30FF#16, 0x41FF#16, 0xA000#16].all fun w =>
      (decode w).toOption.isSome) = true := by decide

theorem witness_StepRunsTheDecodedInstruction :
    booting.busy = false ∧ booting.host = .stream (0x8000#16 :: []) ∧ decode 0x8000#16 = .ok .init ∧ booting.turns = [] ∧
    ({ booting with turns := [.main] } : State).turns = .main :: [] := by decide

/-- The second clause: an illegal word at the port. -/
theorem witness_StepRunsTheDecodedInstruction_illegal :
    ({ State.reset with host := .stream [0xFFFF#16, 0x8000#16] } : State).busy = false ∧
    ({ State.reset with host := .stream [0xFFFF#16, 0x8000#16] } : State).host = .stream (0xFFFF#16 :: [0x8000#16]) ∧
    decode 0xFFFF#16 = .error .opcode := by decide

theorem witness_PortHoldsTheHostWhileBusy :
    atPhaseFive.busy = true ∧ atPhaseFive.turns = [] ∧
    ({ atPhaseFive with turns := [.main, .gen] } : State).busy = true ∧
    ({ atPhaseFive with turns := [.main, .gen] } : State).turns = .main :: [.gen] := by decide

theorem witness_IdleBlockWaits :
    State.reset.busy = false ∧ State.reset.host = .stream [] ∧ State.reset.turns = [] := by decide

theorem witness_PinsAfterReset : Line.mode.wellFormed = true ∧ Line.mode ≠ .cs 0 := by decide

theorem witness_ResetEventRestoresEverything :
    ({ atPhaseFive with turns := [.reset, .main] } : State).turns = .reset :: [.main] := rfl

/-- The clauses of a `CFGDIR` on a line: a falling edge at `E`, a moved `MODE`, and both sides of the rate and the setup
boundary. -/
theorem witness_CfgdirLineResult :
    Line.e.wellFormed = true ∧ stateEHigh.pins.pin .e = .high ∧ Config.ext .e = .low ∧
    (pinsI.setOut .mode .high).pin .mode ≠ Config.ext .mode ∧ (Line.cs 0).wellFormed = true ∧
    (let t := stateI.now + Config.freeTime stateI.draws; t < t + 1 ∧ ¬t < t) ∧
    (let t := stateI.now + Config.freeTime stateI.draws; t - (t - 999) < Config.tSetup ∧ ¬t - (t - 1000) < Config.tSetup) := by
  refine ⟨by decide, by decide, by decide, by decide, by decide, ⟨Nat.lt_succ_self _, Nat.lt_irrefl _⟩, ?_⟩
  simp only [stateI, Config.tSetup]
  omega

theorem witness_CfgdirBusResult : (pinsI.setBusOut 0x55#8).pinBus ≠ Config.extBus := by decide

theorem witness_WrlineOnOutputResult :
    Line.e.wellFormed = true ∧ stateEHigh.pins.dir .e = .output ∧ stateEHigh.pins.out .e = .high ∧
    Line.mode.wellFormed = true ∧ stateEHigh.pins.dir .mode = .output ∧ Level.high ≠ stateEHigh.pins.out .mode := by
  decide

theorem witness_WrlineOnInputFaults :
    Line.led.wellFormed = true ∧ stateI.pins.dir .led = .input ∧ (Line.cs 0).wellFormed = true ∧
    stateI.pins.dir (.cs 0) = .input := by decide

theorem witness_WrbusOnOutputResult : stateI.pins.busDir = .output := by decide

theorem witness_WrbusOnInputFaults : State.reset.pins.busDir = .input := by decide

theorem witness_LineRegistersAreSeparate : (Line.cs 0).wellFormed = true ∧ Line.led ≠ .cs 0 := by decide

/-- One operation of each of the four kinds, performed twice. -/
theorem witness_RepeatedWritesChangeNothing :
    (∃ t u, exec (.cfgdir (.line (.cs 0)) .output) stateI = .next t ∧
      exec (.cfgdir (.line (.cs 0)) .output) t = .next u) ∧
    (∃ t u, stateI.pins.dir .e = .output ∧ exec (.wrline .e .high) stateI = .next t ∧
      exec (.wrline .e .high) t = .next u) ∧
    (∃ t u, stateI.pins.busDir = .output ∧ exec (.wrbus 0x55#8) stateI = .next t ∧ exec (.wrbus 0x55#8) t = .next u) ∧
    (∃ t u, exec (.setc 0xFF#8) stateI = .next t ∧ exec (.setc 0xFF#8) t = .next u) :=
  ⟨⟨_, _, rfl, rfl⟩, ⟨_, _, rfl, rfl, rfl⟩, ⟨_, _, rfl, rfl, rfl⟩, ⟨_, _, rfl, rfl⟩⟩

theorem witness_OnlyMissingLinesStop :
    (Instr.wrline (.cs 0) .high).wellFormed = true ∧ (Instr.wrline (.cs 1) .high).wellFormed = false ∧
    exec (.wrline (.cs 1) .high) stateI = .fault .noSuchLine := ⟨by decide, by decide, rfl⟩

/-- Every operation goes on from state I, or from a state of its kind. -/
theorem witness_ExecFrame :
    (∃ t, exec (.cfgdir .bus .input) stateI = .next t) ∧ (∃ t, exec (.wrline .e .high) stateI = .next t) ∧
    (∃ t, exec (.wrbus 0#8) stateI = .next t) ∧ (∃ t, exec (.exec 0#8 .data) stateI = .next t) ∧
    (∃ t, exec (.wrbyte 0#8) stateI = .next t) ∧ (∃ t, exec (.setc 0#8) stateI = .next t) ∧
    (∃ t, exec .pwminit stateI = .next t) ∧ (∃ t, exec (.wait .setup) stateI = .next t) ∧
    (∃ t, exec .init stateI = .next t) ∧ (∃ t, exec .rdtick stateI = .next t) ∧ (∃ t, exec .clrtick stateI = .next t) :=
  ⟨⟨_, rfl⟩, ⟨_, rfl⟩, ⟨_, rfl⟩, ⟨_, rfl⟩, ⟨_, rfl⟩, ⟨_, rfl⟩, ⟨_, rfl⟩, ⟨_, rfl⟩, ⟨_, rfl⟩, ⟨_, rfl⟩, ⟨_, rfl⟩⟩

/-- `NOW` equal to `T_FREE` is enough. -/
theorem witness_ExecPerformsItsTransaction :
    stateI.execReady ∧ stateI.pins.pin .rw = .low ∧ stateI.busFree := by
  refine ⟨⟨by decide, by decide, by decide⟩, by decide, ?_⟩
  exact ⟨by decide, by decide⟩

theorem witness_WrbytePerformsADataTransaction :
    stateEHigh.execReady ∧ stateEHigh.pins.pin .rw = .low ∧ stateEHigh.busFree := by
  refine ⟨⟨by decide, by decide, by decide⟩, by decide, ?_⟩
  exact ⟨by decide, by decide⟩

/-- `RW` high, before `T_FREE`, and `T_STABLE` equal to `NOW`. -/
theorem witness_ExecLatchesItsPayload :
    ({ stateI with pins := pinsI.setOut .rw .high, arb := { tFree := 35003001, tStable := 35003000 } } : State).execReady ∧
    (35003000 : Nat) ≤ stateI.now := ⟨⟨rfl, rfl, rfl⟩, by decide⟩

/-- `CS[0]` an input with `MASTER_EN` high, and low. -/
theorem witness_AddressedChips :
    pinsI.dir (.cs 0) = .input ∧ pinsI.pin .masterEn = .high ∧ (pinsI.setOut .masterEn .low).dir (.cs 0) = .input ∧
    (pinsI.setOut .masterEn .low).pin .masterEn = .low := by decide

theorem witness_FirstPeriodIsLow : ∃ t, exec .pwminit stateI = .next t := ⟨_, rfl⟩

theorem witness_ExecWithoutOutputsRunsAndFaults :
    State.reset.pins.dir .mode = .input ∧ State.reset.pins.dir .e = .input ∧ State.reset.pins.busDir = .input := by
  decide

/-- A state in every phase, on the turn of the sequencer, and one on the turns of the other two agents. -/
theorem witness_PhaseAdvancesByOne :
    (∀ p : Phase, ∃ s t : State, step s = .next t ∧ s.turns = [] ∧ s.seq.phase = p) ∧
    (∃ t, step { atPhaseFive with turns := [.main] } = .next t) ∧
    (∃ t, step { atPhaseFive with turns := [.gen] } = .next t) ∧
    (∃ t, step { atPhaseFive with turns := [.tick] } = .next t) := by
  refine ⟨fun p => ⟨{ stateI with seq := { mode := .data, payload := 0#8, phase := p } }, ?_⟩, ⟨_, rfl⟩, ⟨_, rfl⟩, ⟨_, rfl⟩⟩
  cases p <;> exact ⟨_, rfl, rfl, rfl⟩

/-- The host lowers `E`. -/
theorem witness_LatchExactlyAtFallingEdges :
    stateI.pins.dir .e = .output ∧ ∃ s t : State, step s = .next t ∧ s.turns = [] ∧ s.pins.pin .e = .high ∧ t.pins.pin .e = .low := by
  refine ⟨rfl, { stateEHigh with host := .stream [0x2004#16] }, wrlineBody .e .low .raw { stateEHigh with host := .stream [] },
    rfl, rfl, rfl, ?_⟩
  rw [wrlineBody, lineWrite_output _ _ _ _ rfl, changePins_pins]
  rfl

/-- `NOW - T_STABLE` exactly `T_SETUP`. -/
theorem witness_PhaseFiveNeverBreaksSetup : atPhaseFive.SetupHeld ∧ atPhaseFive.seq.phase = .p5 := by
  refine ⟨⟨by decide, fun _ => by decide⟩, rfl⟩

/-- The host changes the direction of the bus. -/
theorem witness_TraceRecordsEveryPinChange :
    ∃ s t : State, step s = .next t ∧ s.turns = [] ∧ t.pins.busDir ≠ s.pins.busDir :=
  ⟨{ State.reset with host := .stream [0x1110#16] }, _, rfl, rfl, by
    show Direction.output ≠ Direction.input
    decide⟩

theorem witness_StepsOnlyAddToTheRecord : ∃ t, step booting = .next t ∧ booting.turns = [] := ⟨_, rfl, rfl⟩

/-- Each branch: not running, at top, at the match, elsewhere. -/
theorem witness_GeneratorStepResult :
    ({ State.reset with turns := [.gen] } : State).turns = .gen :: [] ∧ State.reset.pwm.run = false ∧
    (steady 0xFF#8 1023#10).run = true ∧ (steady 0xFF#8 1023#10).cnt = (steady 0xFF#8 1023#10).top ∧
    (steady 0xFF#8 255#10).cnt.toNat = (steady 0xFF#8 255#10).duty.toNat ∧
    (steady 0xFF#8 256#10).cnt ≠ (steady 0xFF#8 256#10).top := by decide

/-- At both ends of the range of `DUTY`. -/
theorem witness_SteadyPeriodWaveform :
    ∀ d : Byte, (steady d 0#10).run = true ∧ (steady d 0#10).top = Config.pwmTopValue ∧ (steady d 0#10).cnt = 0#10 ∧
      (steady d 0#10).out = .high := fun _ => ⟨rfl, rfl, rfl, rfl⟩

theorem witness_ContrastValueOfAPeriod :
    (steady 0x00#8 0#10).duty = 0x00#8 ∧ (steady 0xFF#8 0#10).duty = 0xFF#8 ∧
    (0xFF#8 : Byte).toNat = (steady 0xF7#8 0#10).duty.toNat + Config.contrastStep.toNat ∧
    (steady 0xFE#8 0#10).run = true ∧ (steady 0xFE#8 0#10).top = Config.pwmTopValue ∧ (steady 0xFE#8 0#10).cnt = 0#10 ∧
    (steady 0xFE#8 0#10).out = .high ∧ (steady 0xFE#8 0#10).duty.toNat < (0xFF#8 : Byte).toNat := by decide

/-- V42.4's cases with small numbers: the output already low; high with the match to come (at `c = d2`, V42.4(d)); high
with the match behind. -/
theorem witness_MidPeriodSetc :
    (steady 5#8 0#10).run = true ∧ (steady 5#8 0#10).top = Config.pwmTopValue ∧ (steady 5#8 0#10).cnt = 0#10 ∧
    (steady 5#8 0#10).out = .high ∧ 1 < 1024 ∧
    ((steady 0#8 0#10).clocks 1).out = .low ∧ (steady 0#8 0#10).duty.toNat < 1 ∧
    ((steady 5#8 0#10).clocks 1).out = .high ∧ 1 ≤ (1#8 : Byte).toNat ∧ (0#8 : Byte).toNat < 1 := by decide

theorem witness_WaitResult : stateI.seq.phase = .idle := by decide

theorem witness_DelayCodesRequestTheirIntervals : (4 ≤ 4 ∧ 4 < 256) ∧ 4 ≤ 255 ∧ 255 < 256 := by decide

theorem witness_InitBeginsOnce :
    State.reset.ini.status = .notStarted ∧ stateI.ini.status ≠ .notStarted ∧
    ({ stateI with ini := { status := .running, step := 10, op := 1 } } : State).ini.status = .running ∧
    ∃ t, step stateI = .next t ∧ stateI.turns = [] := ⟨rfl, by decide, rfl, _, rfl, rfl⟩

theorem witness_InitEndsReady :
    State.reset.pins = Pins.reset ∧ State.reset.ini = { status := .notStarted, step := 0, op := 0 } ∧
    State.reset.busy = false ∧ State.reset.busFree :=
  ⟨rfl, rfl, by decide, Nat.le_refl _, Nat.le_refl _⟩

/-- The last step of the sequence about to end, and the first about to begin. -/
theorem witness_InitStepAdvancesByOne :
    ∃ s t : State, s.InitConsistent ∧ step s = .next t ∧ s.turns = [] ∧ s.ini.step = 10 ∧ t.ini.step = 0 :=
  ⟨{ stateI with ini := { status := .running, step := 10, op := 1 } }, _, ⟨by decide, by decide⟩, rfl, rfl, rfl, rfl⟩

theorem witness_TickEventResult : ({ stateI with turns := [.tick] } : State).turns = .tick :: [] := rfl

theorem witness_LoopServesAHostByte_no_byte :
    ∃ c c' : ControlLoop,
      (loopAt .readHost 0#8 []).host = .loop c ∧ c.place = .readHost ∧ c.inbox = [] ∧
      (loopAt .readHost 0#8 [none, some 0#8]).host = .loop c' ∧ c'.inbox = none :: [some 0#8] ∧
      (loopAt .readHost 0#8 []).busy = false ∧ (loopAt .readHost 0#8 []).turns = [] :=
  ⟨_, _, rfl, rfl, rfl, rfl, rfl, by decide, rfl⟩

theorem witness_LoopServesAHostByte :
    ∃ c c' : ControlLoop,
      (loopAt .readHost 0#8 [some 0x2B#8]).host = .loop c ∧ c.place = .readHost ∧ c.inbox = some 0x2B#8 :: [] ∧
      (loopAt .readHost 0#8 [some 0x2C#8]).host = .loop c' ∧ c'.place = .readHost ∧ c'.inbox = some 0x2C#8 :: [] ∧
      (0x2C#8 : Byte) ≠ 0x2B#8 ∧
      (loopAt .readHost 0#8 [some 0x2B#8]).busy = false ∧ (loopAt .readHost 0#8 [some 0x2B#8]).turns = [] :=
  ⟨_, _, rfl, rfl, rfl, rfl, rfl, rfl, by decide, by decide, rfl⟩

/-- The cursor at its last value, so that it wraps (V44.4). -/
theorem witness_LoopServicesOneTick :
    ∃ (s : State) (c : ControlLoop),
      s.host = .loop c ∧ c.place = .issueRdtick ∧ c.cursor = 0xFF#8 ∧ s.busy = false ∧ s.turns = [] ∧ s.tick = true ∧
      s.execReady ∧ s.pins.pin .rw = .low ∧ s.busFree :=
  ⟨{ loopAt .issueRdtick 0xFF#8 [] with tick := true }, _, rfl, rfl, rfl, by decide, rfl, rfl, ⟨rfl, rfl, rfl⟩, by decide,
    by decide, by decide⟩

theorem witness_LoopPollsAgainWithoutATick :
    ∃ c : ControlLoop,
      (loopAt .issueRdtick 0#8 []).host = .loop c ∧ c.place = .issueRdtick ∧
      (loopAt .issueRdtick 0#8 []).busy = false ∧ (loopAt .issueRdtick 0#8 []).turns = [] ∧
      (loopAt .issueRdtick 0#8 []).tick = false :=
  ⟨_, rfl, rfl, by decide, rfl, rfl⟩

theorem witness_LoopWaitsForeverForTheTransport :
    ∃ c : ControlLoop,
      (loopAt .waitConfigured 0#8 []).host = .loop c ∧ c.place = .waitConfigured ∧ c.configured = [] ∧
      (loopAt .waitConfigured 0#8 []).busy = false ∧ (loopAt .waitConfigured 0#8 []).turns = [] :=
  ⟨_, rfl, rfl, rfl, by decide, rfl⟩

theorem witness_StepKeepsInitConsistent : booting.InitConsistent ∧ ∃ t, step booting = .next t :=
  ⟨⟨by decide, by decide⟩, _, rfl⟩

theorem witness_StepKeepsOneInFlight : booting.OneInFlight ∧ ∃ t, step booting = .next t :=
  ⟨fun _ => rfl, _, rfl⟩

theorem witness_StepKeepsTimeOrdered : booting.TimeOrdered ∧ ∃ t, step booting = .next t :=
  ⟨⟨List.Pairwise.nil, fun _ h => absurd h List.not_mem_nil, Nat.le_refl _⟩, _, rfl⟩

theorem witness_StepKeepsSetupHeld : atPhaseFive.SetupHeld ∧ ∃ t, step atPhaseFive = .next t :=
  ⟨witness_PhaseFiveNeverBreaksSetup.1, _, rfl⟩

theorem witness_StepKeepsFaultsRecorded : booting.FaultsRecorded ∧ ∃ t, step booting = .next t :=
  ⟨fun c => by cases c <;> decide, _, rfl⟩

theorem witness_StepKeepsFreeFromLatch : booting.FreeFromLatch ∧ ∃ t, step booting = .next t := ⟨rfl, _, rfl⟩

theorem witness_StepKeepsGeneratorConfigured :
    booting.pwm.Configured ∧ (steady 0#8 5#10).Configured ∧ ∃ t, step booting = .next t :=
  ⟨.inr rfl, .inl ⟨rfl, rfl⟩, _, rfl⟩

end Sys2Proof.Tests
end

section
/-! PROOFS. What each action leaves of `SEQ_PHASE` and of `INIT_STATE`, `INIT_STEP`, and what every primitive update does
to the record: one lemma per function of the model, for the statements on 10_state.md below. -/

namespace Sys2Proof.Machine

/-! ### The line registers (10_state.md R20 to R22, R40) -/

/-- After reset every line, of the block or not, reads as an undriven one (10_state.md R40). -/
theorem Pins.reset_get (l : Line) : Pins.reset.lines.get l = .reset := by
  cases l with
  | cs k =>
    simp only [LineFile.get, Pins.reset, Vector.getElem?_replicate]
    split <;> rfl
  | _ => rfl

/-! ### Which terms have a meaning (10_state.md R20) -/

theorem exec_init_next (s : State) : ∃ t, exec .init s = .next t := by
  by_cases h : s.ini.status = .notStarted
  · exact ⟨beginInit s, if_pos h⟩
  · exact ⟨s.raise .reinit .plain, if_neg h⟩

theorem exec_next_of_wellFormed (i : Instr) (s : State) (hi : i.wellFormed = true) : ∃ t, exec i s = .next t := by
  by_cases hn : i = .init
  · exact hn ▸ exec_init_next s
  · exact ⟨_, exec_eq_perform i s hi hn⟩

/-- The one stop of the model (notes/assumptions/14.md). -/
theorem exec_of_not_wellFormed (i : Instr) (s : State) (hi : i.wellFormed ≠ true) :
    exec i s = .fault .noSuchLine := by
  cases i with
  | cfgdir t d => exact if_neg hi
  | wrline l v => exact if_neg hi
  | _ => exact absurd rfl hi

/-! ### Whose turn it is -/

/-- A turn of the host or sequencer is `mainStep`, with the turn used up. -/
theorem step_eq_mainStep {s : State} (h : s.turns = [] ∨ ∃ ts, s.turns = .main :: ts) :
    ∃ ts, step s = mainStep { s with turns := ts } := by
  rcases h with h | ⟨ts, h⟩
  · have hmain : step s = mainStep s := by simp [step, turnStep, h]
    exact ⟨s.turns, hmain⟩
  · exact ⟨ts, by simp [step, turnStep, h]⟩

/-- While a transaction is in flight the turn of the host or sequencer is its next phase
(41_transaction_sequencer.md R132). -/
theorem mainStep_of_phase_ne_idle {s : State} (h : s.seq.phase ≠ .idle) : mainStep s = .next (phaseStep s) := by
  simp [mainStep, State.busy, sequencerStep, h]

/-! ### `SEQ_PHASE` (10_state.md R27) -/

/-- The phase after a phase of the transaction in flight; idle stays idle (10_state.md R27). -/
def Phase.next : Phase → Phase
  | .idle => .idle
  | .p1 => .p2
  | .p2 => .p3
  | .p3 => .p4
  | .p4 => .p5
  | .p5 => .p6
  | .p6 => .idle

@[simp] theorem phaseStep_phase (s : State) : (phaseStep s).seq.phase = s.seq.phase.next := by
  unfold phaseStep
  split <;> simp [Phase.next, *]

/-- An operation begins a transaction or leaves the sequencer's registers. -/
theorem perform_seq (o : Origin) (i : Instr) (s : State) :
    (perform o i s).seq = s.seq ∨ (perform o i s).seq.phase = .p1 := by
  cases i with
  | exec b m => exact .inr rfl
  | wrbyte b => exact .inr rfl
  | _ => exact .inl (by simp [perform])

theorem exec_seq {i : Instr} {s t : State} (hi : i.wellFormed = true) (he : exec i s = .next t) :
    t.seq = s.seq ∨ t.seq.phase = .p1 := by
  by_cases hn : i = .init
  · subst hn
    simp only [exec, execInit] at he
    split at he <;> cases he <;> exact .inl rfl
  · rw [exec_eq_perform i s hi hn] at he
    cases he
    exact perform_seq _ _ _

/-- While no transaction is in flight an action begins one with phase 1 or leaves `SEQ_PHASE` at 0. -/
theorem Acts.phase_of_idle {s t : State} (h : Acts s t) (hp : s.seq.phase = .idle) :
    t.seq.phase = .idle ∨ t.seq.phase = .p1 := by
  have of_seq : ∀ {u v : State}, u.seq.phase = .idle → v.seq = u.seq ∨ v.seq.phase = .p1 →
      v.seq.phase = .idle ∨ v.seq.phase = .p1 := fun hu hv => hv.imp_left fun e => (congrArg Sequencer.phase e).trans hu
  cases h with
  | operation i t _ hi he => exact of_seq hp (exec_seq hi he)
  | initOp i _ _ _ _ => exact of_seq hp (perform_seq _ _ _)
  | phase hp' => exact absurd hp hp'
  | _ => exact .inl (by simpa using hp)

/-! ### `INIT_STATE` and `INIT_STEP` (10_state.md R30, R31) -/

@[simp] theorem perform_ini (o : Origin) (i : Instr) (s : State) : (perform o i s).ini = s.ini := by
  cases i <;> simp [perform]

@[simp] theorem phaseStep_ini (s : State) : (phaseStep s).ini = s.ini := by
  unfold phaseStep
  split <;> simp

@[simp] theorem endInitStep_ini (s : State) :
    (endInitStep s).ini = if s.ini.step = 10 then { status := .ready, step := 0, op := 0 }
      else { s.ini with step := s.ini.step + 1, op := 0 } := by
  unfold endInitStep
  split <;> rfl

theorem exec_ini {i : Instr} {s t : State} (hi : i.wellFormed = true) (he : exec i s = .next t) :
    t.ini = s.ini ∨ s.ini.status = .notStarted ∧ t.ini = { status := .running, step := 1, op := 0 } := by
  by_cases hn : i = .init
  · subst hn
    simp only [exec, execInit] at he
    split at he
    · next h => cases he; exact .inr ⟨h, rfl⟩
    · cases he; exact .inl rfl
  · rw [exec_eq_perform i s hi hn] at he
    cases he
    exact .inl (perform_ini _ _ _)

/-- All that an action can do to the initialization sequencer: begin it, or, while it runs, count an operation or end a
step, the last or another (43_init_sequencer.md R180). -/
theorem Acts.ini {s t : State} (h : Acts s t) :
    t.ini = s.ini ∨
    (s.ini.status = .notStarted ∧ t.ini = { status := .running, step := 1, op := 0 }) ∨
    (s.ini.status = .running ∧
      (t.ini = { s.ini with op := s.ini.op + 1 } ∨
        (s.ini.step = 10 ∧ t.ini = { status := .ready, step := 0, op := 0 }) ∨
        (s.ini.step ≠ 10 ∧ t.ini = { s.ini with step := s.ini.step + 1, op := 0 }))) := by
  cases h with
  | operation i t _ hi he => exact (exec_ini hi he).imp_right .inl
  | initOp i _ _ hr _ => exact .inr (.inr ⟨hr, .inl (perform_ini _ _ _)⟩)
  | initStepEnds _ _ hr =>
    refine .inr (.inr ⟨hr, .inr ?_⟩)
    by_cases h10 : s.ini.step = 10
    · exact .inl ⟨h10, by simp [h10]⟩
    · exact .inr ⟨h10, by simp [h10]⟩
  | _ => exact .inl (by simp)

/-- `INIT_STEP` counts up without a wrap before 10. -/
theorem initStep_succ_val : ∀ n : Fin 11, n ≠ 10 → (n + 1).val = n.val + 1 := by decide

theorem Acts.initConsistent {s t : State} (h : Acts s t) (hs : s.InitConsistent) : t.InitConsistent := by
  obtain ⟨hstep, hop⟩ := hs
  rcases h.ini with ht | ⟨-, ht⟩ | ⟨hr, ht | ⟨-, ht⟩ | ⟨h10, ht⟩⟩
  · exact ⟨by rwa [ht], by rwa [ht]⟩
  · exact ⟨by simp [ht], by simp [ht]⟩
  · exact ⟨by simpa [ht] using hstep, by simp [ht, hr]⟩
  · exact ⟨by simp [ht], by simp [ht]⟩
  · have hne : s.ini.step + 1 ≠ 0 := fun h0 => by
      have := initStep_succ_val _ h10
      simp [h0] at this
    exact ⟨by simp [ht, hr, hne], by simp [ht, hr]⟩

/-! ### The record: `TRACE`, `FAULT`, `NOW`, and the arbiter's stamp (10_state.md R28, R36) -/

theorem raise_faulted {s : State} {c : Cause} (h : s.faulted c = true) (c' : Cause) (d : FaultDetail) :
    (s.raise c' d).faulted c = true := by
  have hc : s.fault.getLsbD c.code = true := h
  simp [State.faulted, hc]

theorem changePins_faulted {s : State} {c : Cause} (h : s.faulted c = true) (p : Pins) (o : Origin) :
    (s.changePins p o).faulted c = true := by
  have hc : s.fault.getLsbD c.code = true := h
  simp [State.faulted, State.changePins, commit_fault, hc]

/-- `Commit` stamps `T_STABLE` with `NOW` or leaves it (41_transaction_sequencer.md R130). -/
theorem changePins_tStable_le {s : State} (h : s.arb.tStable ≤ s.now) (p : Pins) (o : Origin) :
    (s.changePins p o).arb.tStable ≤ s.now := by
  simp only [State.changePins, commit_arb]
  split
  · exact Nat.le_refl _
  · exact h

/-- The end of an initialization step records at most `InitDone(NOW)`. -/
theorem endInitStep_trace (s : State) :
    ∃ new, (endInitStep s).trace = s.trace ++ new ∧ ∀ e ∈ new, e.time = s.now := by
  unfold endInitStep
  split
  · exact ⟨_, rfl, by simp⟩
  · exact ⟨[], by simp⟩

/-- From `s` to `t` the trace is only appended to, no bit of `FAULT` is cleared, `NOW` does not go back, and
initialization that has begun is not undone. -/
structure RecordGrows (s t : State) : Prop where
  trace : s.trace <+: t.trace
  fault : ∀ c, s.faulted c = true → t.faulted c = true
  now : s.now ≤ t.now
  begun : s.ini.status ≠ .notStarted → t.ini.status ≠ .notStarted

theorem RecordGrows.refl (s : State) : RecordGrows s s :=
  ⟨⟨[], List.append_nil _⟩, fun _ => id, Nat.le_refl _, id⟩

theorem RecordGrows.trans {a b c : State} (h : RecordGrows a b) (k : RecordGrows b c) : RecordGrows a c :=
  ⟨h.trace.trans k.trace, fun x => k.fault x ∘ h.fault x, h.now.trans k.now, k.begun ∘ h.begun⟩

/-- An update that appends events and takes time, and leaves `FAULT` and `INIT_STATE`. -/
theorem RecordGrows.of_append {s t : State} {new : List Event} (htrace : t.trace = s.trace ++ new)
    (hfault : t.fault = s.fault) (hnow : s.now ≤ t.now) (hstatus : t.ini.status = s.ini.status) : RecordGrows s t :=
  ⟨⟨new, htrace.symm⟩, fun c h => by simpa [State.faulted, hfault] using h, hnow, by rw [hstatus]; exact id⟩

/-- An update that may take time and leaves the rest of the record. -/
theorem RecordGrows.of_eq {s t : State} (htrace : t.trace = s.trace) (hfault : t.fault = s.fault)
    (hnow : s.now ≤ t.now) (hstatus : t.ini.status = s.ini.status) : RecordGrows s t :=
  .of_append (new := []) (by simp [htrace]) hfault hnow hstatus

theorem RecordGrows.raise (s : State) (c : Cause) (d : FaultDetail) : RecordGrows s (s.raise c d) :=
  ⟨⟨_, rfl⟩, fun _ h => raise_faulted h c d, Nat.le_refl _, id⟩

theorem RecordGrows.changePins (s : State) (p : Pins) (o : Origin) : RecordGrows s (s.changePins p o) := by
  obtain ⟨new, htrace, -⟩ := changePins_trace s p o
  exact ⟨⟨new, htrace.symm⟩, fun _ h => changePins_faulted h p o, by simp, by simp⟩

theorem RecordGrows.endInitStep {s : State} (hr : s.ini.status = .running) : RecordGrows s (endInitStep s) := by
  obtain ⟨new, htrace, -⟩ := endInitStep_trace s
  refine ⟨⟨new, htrace.symm⟩, fun c h => by simpa [State.faulted] using h, by simp, fun _ => ?_⟩
  rw [endInitStep_ini]
  split <;> simp [hr]

theorem Acts.recordGrows {s t : State} (h : Acts s t) : RecordGrows s t :=
  acts_rel RecordGrows .refl .trans
    (time := fun _ => .of_eq rfl rfl (by simp) rfl)
    (sleep := fun _ _ => .of_append rfl rfl (by simp) rfl)
    (raise := .raise)
    (change := .changePins)
    (draw := fun _ _ _ => .of_eq rfl rfl (Nat.le_refl _) rfl)
    (seq := fun _ _ _ => .of_eq rfl rfl (Nat.le_refl _) rfl)
    (wait := fun _ _ => .of_eq rfl rfl (Nat.le_refl _) rfl)
    (pwm := fun _ _ => .of_eq rfl rfl (Nat.le_refl _) rfl)
    (tick := fun _ _ => .of_eq rfl rfl (Nat.le_refl _) rfl)
    (resp := fun _ _ => .of_eq rfl rfl (Nat.le_refl _) rfl)
    (op := fun _ _ => .of_eq rfl rfl (Nat.le_refl _) rfl)
    (duty := fun _ _ => .of_append rfl rfl (Nat.le_refl _) rfl)
    (tread := fun _ _ => .of_append rfl rfl (Nat.le_refl _) rfl)
    (begi := fun _ hn => ⟨⟨[], List.append_nil _⟩, fun _ => id, Nat.le_refl _, fun h => absurd hn h⟩)
    (endi := fun _ => .endInitStep) h

/-! ### The trace in order of time (10_state.md R36, 20_memory.md R68) -/

theorem State.TimeOrdered.tStable_le {s : State} (h : s.TimeOrdered) : s.arb.tStable ≤ s.now := h.2.2

/-- Events that happen at `NOW` keep the trace in order, if `NOW` does not go back and `T_STABLE` stays in the past. -/
theorem State.TimeOrdered.of_append {s t : State} (h : s.TimeOrdered)
    (htrace : ∃ new, t.trace = s.trace ++ new ∧ ∀ e ∈ new, e.time = s.now)
    (hnow : s.now ≤ t.now) (hstable : t.arb.tStable ≤ t.now) : t.TimeOrdered := by
  obtain ⟨hsorted, hpast, -⟩ := h
  obtain ⟨new, htrace, hnew⟩ := htrace
  refine ⟨?_, fun e he => ?_, hstable⟩
  · rw [htrace, List.pairwise_append]
    refine ⟨hsorted, ?_, fun a ha b hb => (hpast a ha).trans (hnew b hb).ge⟩
    exact List.pairwise_of_forall_mem_list fun a ha b hb => ((hnew a ha).trans (hnew b hb).symm).le
  · rw [htrace, List.mem_append] at he
    rcases he with he | he
    · exact (hpast e he).trans hnow
    · exact (hnew e he).le.trans hnow

/-- An update that appends one event at `NOW`, takes time, and leaves the arbiter. -/
theorem State.TimeOrdered.of_event {s t : State} (h : s.TimeOrdered) {e : Event} (htrace : t.trace = s.trace ++ [e])
    (he : e.time = s.now) (hnow : s.now ≤ t.now) (harb : t.arb = s.arb) : t.TimeOrdered :=
  h.of_append ⟨[e], htrace, by simpa using he⟩ hnow (harb ▸ h.tStable_le.trans hnow)

theorem State.TimeOrdered.stepTime {s : State} (h : s.TimeOrdered) : s.stepTime.TimeOrdered :=
  h.of_append ⟨[], by simp⟩ (by simp) (h.tStable_le.trans (by simp))

theorem State.TimeOrdered.changePins {s : State} (h : s.TimeOrdered) (p : Pins) (o : Origin) :
    (s.changePins p o).TimeOrdered :=
  h.of_append (changePins_trace s p o) (by simp) (by simpa using changePins_tStable_le h.tStable_le p o)

theorem State.TimeOrdered.endInitStep {s : State} (h : s.TimeOrdered) : (endInitStep s).TimeOrdered :=
  h.of_append (endInitStep_trace s) (by simp) (by simpa using h.tStable_le)

theorem Acts.timeOrdered {s t : State} (h : Acts s t) : s.TimeOrdered → t.TimeOrdered :=
  acts_rel (fun s t => s.TimeOrdered → t.TimeOrdered) (fun _ => id) (fun hab hbc => hbc ∘ hab)
    (time := fun _ hs => hs.stepTime)
    (sleep := fun _ _ hs => hs.of_event rfl rfl (by simp) rfl)
    (raise := fun _ _ _ hs => hs.of_event rfl rfl (Nat.le_refl _) rfl)
    (change := fun _ p o hs => hs.changePins p o)
    (draw := fun _ _ _ hs => hs)
    (seq := fun _ _ _ hs => hs)
    (wait := fun _ _ hs => hs)
    (pwm := fun _ _ hs => hs)
    (tick := fun _ _ hs => hs)
    (resp := fun _ _ hs => hs)
    (op := fun _ _ hs => hs)
    (duty := fun _ _ hs => hs.of_event rfl rfl (Nat.le_refl _) rfl)
    (tread := fun _ _ hs => hs.of_event rfl rfl (Nat.le_refl _) rfl)
    (begi := fun _ _ hs => hs)
    (endi := fun _ _ hs => hs.endInitStep) h

/-! ### The invariants at reset, and across a step -/

theorem reset_initConsistent : State.reset.InitConsistent := by
  simp [State.InitConsistent, State.reset]

theorem reset_timeOrdered : State.reset.TimeOrdered :=
  ⟨.nil, fun _ h => absurd h List.not_mem_nil, Nat.le_refl _⟩

theorem reset_faultsRecorded : State.reset.FaultsRecorded := by
  simp [State.FaultsRecorded, State.faulted, State.reset]

/-- A predicate that does not read the turns or the host, holds right after a reset event and is kept by every action is
kept by every step. -/
theorem step_keeps (I : State → Prop) (frame : ∀ (s : State) ts ha, I s → I { s with turns := ts, host := ha })
    (reset : ∀ s, I (resetBlock s)) (acts : ∀ {s t}, Acts s t → I s → I t) {s t : State} (hs : I s)
    (h : step s = .next t) : I t := by
  rcases step_cases h with ⟨ts, -, rfl⟩ | ⟨-, u, ⟨ts, ha, rfl⟩, hact⟩
  · exact reset _
  · exact acts hact (frame s ts ha hs)

/-- A step other than a reset is an action on a state that differs in the turns and the host only. -/
theorem step_acts {s t : State} (h : step s = .next t) (hr : ∀ ts, s.turns ≠ .reset :: ts) :
    ∃ ts ha, Acts { s with turns := ts, host := ha } t := by
  rcases step_cases h with ⟨ts, hts, -⟩ | ⟨-, u, ⟨ts, ha, rfl⟩, hact⟩
  · exact absurd hts (hr ts)
  · exact ⟨ts, ha, hact⟩

end Sys2Proof.Machine
end

section
/-! PROOFS. The statements on 10_state.md: the registers, `SEQ_PHASE`, the record, `INIT_STEP`, reset. -/

namespace Sys2Proof.Machine

/-- Settles O55: an event has the `NOW` of the update that appends it, and `NOW` never goes back. -/
theorem stepKeepsTimeOrdered : Obligations.StepKeepsTimeOrdered := fun _ _ hs h =>
  step_keeps State.TimeOrdered (fun _ _ _ h => h) (fun _ => reset_timeOrdered) Acts.timeOrdered hs h

/-- Settles O18, from what a write of the line file returns at the line written and at another. -/
theorem lineRegistersAreSeparate : Obligations.LineRegistersAreSeparate := fun p l d v hl =>
  ⟨p.dir_setDir_same l d hl, p.out_setDir_same l d hl, p.out_setOut_same l v hl, p.dir_setOut_same l v hl,
    rfl, rfl, rfl, rfl, fun l' hne =>
    ⟨p.dir_setDir_ne l l' d hne, p.out_setDir_ne l l' d hne, p.dir_setOut_ne l l' v hne, p.out_setOut_ne l l' v hne⟩⟩

/-- Settles O27: in flight the turn is `phaseStep`, which moves to `Phase.next`; in phase 0 every action stays or begins a
transaction. -/
theorem phaseAdvancesByOne : Obligations.PhaseAdvancesByOne := by
  intro s t h
  refine ⟨fun hturn => ?_, fun ts hts => ?_⟩
  · have hidle : s.seq.phase = .idle → t.seq.phase = .idle ∨ t.seq.phase = .p1 := by
      intro hp
      obtain ⟨ts, ha, hact⟩ := step_acts h (by rcases hturn with e | ⟨_, e⟩ <;> simp [e])
      exact hact.phase_of_idle hp
    have hnext : s.seq.phase ≠ .idle → t.seq.phase = s.seq.phase.next := by
      intro hp
      obtain ⟨ts, hmain⟩ := step_eq_mainStep hturn
      rw [hmain, mainStep_of_phase_ne_idle (s := { s with turns := ts }) hp] at h
      cases h
      exact phaseStep_phase _
    refine ⟨hidle, ?_, ?_, ?_, ?_, ?_, ?_⟩ <;> exact fun hp => by simpa [hp, Phase.next] using hnext
  · rcases hts with hts | hts <;> simp only [step, turnStep, hts] at h <;> cases h <;> rfl

/-- Settles O32: every primitive update only adds to the record, and so does every action. -/
theorem stepsOnlyAddToTheRecord : Obligations.StepsOnlyAddToTheRecord := by
  intro s t h hr
  obtain ⟨ts, ha, hact⟩ := step_acts h hr
  obtain ⟨htrace, hfault, hnow, hbegun⟩ := hact.recordGrows
  exact ⟨htrace, hfault, hnow, hbegun⟩

/-- Settles O44, by the cases of what an action can do to the initialization sequencer. -/
theorem initStepAdvancesByOne : Obligations.InitStepAdvancesByOne := by
  intro s t ⟨hstep, _⟩ h hr
  obtain ⟨ts, ha, hact⟩ := step_acts h hr
  rcases hact.ini with ht | ⟨hn, ht⟩ | ⟨hrun, ht | ⟨h10, ht⟩ | ⟨h10, ht⟩⟩
  · exact .inl (by rw [ht])
  · have h0 : s.ini.step = 0 := by
      by_contra hne
      simp [hstep.2 hne] at hn
    exact .inr (.inl ⟨by simp [ht, h0], fun _ => ⟨hn, by rw [ht]⟩⟩)
  · exact .inl (by rw [ht])
  · exact .inr (.inr ⟨h10, by rw [ht], hrun, by rw [ht]⟩)
  · exact .inr (.inl ⟨by rw [ht]; exact initStep_succ_val _ h10, fun h0 => absurd h0 (hstep.1 hrun)⟩)

/-- Settles O53, by the cases of what an action can do to the initialization sequencer. -/
theorem stepKeepsInitConsistent : Obligations.StepKeepsInitConsistent := fun _ _ hs h =>
  step_keeps State.InitConsistent (fun _ _ _ h => h) (fun _ => reset_initConsistent) Acts.initConsistent hs h

/-- Settles O9: every line register is the reset one, and the other values are those of `State.reset`. -/
theorem resetValuesAreTheTable : Obligations.ResetValuesAreTheTable := by
  refine ⟨fun l => ?_, rfl, rfl, rfl, rfl, rfl, rfl, rfl, rfl, rfl, rfl, rfl, rfl, rfl, rfl, rfl, rfl, rfl, rfl, rfl⟩
  have hl : State.reset.pins.lines.get l = .reset := Pins.reset_get l
  exact ⟨congrArg LineReg.dir hl, congrArg LineReg.out hl⟩

/-- Settles O20: a well-formed term has a next state, and any other one stops. -/
theorem onlyMissingLinesStop : Obligations.OnlyMissingLinesStop := by
  refine fun i s => ⟨fun ⟨t, ht⟩ => ?_, exec_next_of_wellFormed i s⟩
  by_contra hi
  simp [exec_of_not_wellFormed i s hi] at ht

/-- Settles O60: at reset the block is idle, its trace is empty and every time is 0. -/
theorem invariantsHoldAtReset : Obligations.InvariantsHoldAtReset :=
  ⟨reset_initConsistent, fun _ => rfl, reset_timeOrdered, ⟨Nat.le_refl _, nofun⟩, reset_faultsRecorded, rfl, .inr rfl⟩

end Sys2Proof.Machine
end

section
/-! PROOFS. A register written with the value it holds already (20_memory.md R66), and what an action can make of a
transaction and a `WAIT` in flight (R69), for the statements on 20_memory.md below. -/

namespace Sys2Proof.Machine

/-! ### Writing a register with what it holds -/

theorem LineFile.set_get_self (f : LineFile) (l : Line) : f.set (f.get l) l = f := by
  cases l with
  | cs k =>
    have hcs : f.cs.setIfInBounds k ((f.cs[k]?).getD .reset) = f.cs := by
      ext i hi
      by_cases hik : k = i
      · subst hik; simp [hi]
      · simp [Vector.getElem_setIfInBounds_ne hi hik]
    simp [LineFile.set, LineFile.get, hcs]
  | _ => rfl

theorem Pins.setDir_eq_self {p : Pins} {l : Line} {d : Direction} (h : p.dir l = d) : p.setDir l d = p := by
  subst h
  exact congrArg (fun f => { p with lines := f }) (p.lines.set_get_self l)

theorem Pins.setOut_eq_self {p : Pins} {l : Line} {v : Level} (h : p.out l = v) : p.setOut l v = p := by
  subst h
  exact congrArg (fun f => { p with lines := f }) (p.lines.set_get_self l)

theorem Pins.setTargetDir_twice (p : Pins) (tg : Target) (d : Direction) (hw : tg.wellFormed = true) :
    (p.setTargetDir tg d).setTargetDir tg d = p.setTargetDir tg d := by
  cases tg with
  | line l => exact Pins.setDir_eq_self (p.dir_setDir_same l d hw)
  | bus => rfl

/-- A `Commit` that finds every register as it was does nothing (40_pin_bus.md R103). -/
theorem changePins_self (s : State) (o : Origin) : s.changePins s.pins o = s :=
  changePins_unseen s s.pins o (fun _ => ⟨rfl, rfl⟩) rfl rfl

/-! ### Repeating a write: the second one is its `Step()` and nothing else -/

theorem cfgdirBody_twice (tg : Target) (d : Direction) (o : Origin) (s : State) (hw : tg.wellFormed = true) :
    cfgdirBody tg d o (cfgdirBody tg d o s) = (cfgdirBody tg d o s).stepTime := by
  have hp : (cfgdirBody tg d o s).pins = s.pins.setTargetDir tg d := cfgdirBody_pins tg d o s
  generalize cfgdirBody tg d o s = t at hp ⊢
  have hd : t.stepTime.pins.setTargetDir tg d = t.stepTime.pins := by
    rw [stepTime_pins, hp, Pins.setTargetDir_twice _ _ _ hw]
  rw [cfgdirBody, hd, changePins_self]

theorem wrlineBody_of_output {l : Line} {s : State} (v : Level) (o : Origin) (hd : s.pins.dir l = .output) :
    wrlineBody l v o s = s.stepTime.changePins (s.pins.setOut l v) o :=
  lineWrite_output s.stepTime l v o hd

theorem wrlineBody_twice (l : Line) (v : Level) (o : Origin) (s : State) (hw : l.wellFormed = true)
    (hd : s.pins.dir l = .output) : wrlineBody l v o (wrlineBody l v o s) = (wrlineBody l v o s).stepTime := by
  have hp : (wrlineBody l v o s).pins = s.pins.setOut l v := by simp [wrlineBody_of_output v o hd]
  generalize wrlineBody l v o s = t at hp ⊢
  have hd' : t.pins.dir l = .output := by rw [hp, Pins.dir_setOut_same _ _ _ hw, hd]
  have hv : t.pins.out l = v := by rw [hp, Pins.out_setOut_same _ _ _ hw]
  rw [wrlineBody_of_output v o hd', Pins.setOut_eq_self hv]
  exact changePins_self t.stepTime o

theorem wrbusBody_of_output {s : State} (b : Byte) (o : Origin) (hd : s.pins.busDir = .output) :
    wrbusBody b o s = s.stepTime.changePins (s.pins.setBusOut b) o :=
  busWrite_output s.stepTime b o hd

theorem wrbusBody_twice (b : Byte) (o : Origin) (s : State) (hd : s.pins.busDir = .output) :
    wrbusBody b o (wrbusBody b o s) = (wrbusBody b o s).stepTime := by
  have hp : (wrbusBody b o s).pins = s.pins.setBusOut b := by simp [wrbusBody_of_output b o hd]
  generalize wrbusBody b o s = t at hp ⊢
  have hd' : t.pins.busDir = .output := by rw [hp, Pins.busDir_setBusOut, hd]
  have hb : t.pins.setBusOut b = t.stepTime.pins := by rw [stepTime_pins, hp]; rfl
  rw [wrbusBody_of_output b o hd', hb, changePins_self]

/-! ### A transaction and a `WAIT` in flight -/

theorem State.busy_eq_false_iff (s : State) :
    s.busy = false ↔ s.seq.phase = .idle ∧ s.ini.status ≠ .running ∧ s.waitActive = false := by
  simp [State.busy]

@[simp] theorem phaseStep_waitActive (s : State) : (phaseStep s).waitActive = s.waitActive := by
  unfold phaseStep
  split <;> simp

theorem State.OneInFlight.of_no_wait {s : State} (h : s.waitActive = false) : s.OneInFlight := by
  simp [State.OneInFlight, h]

/-- An operation begun while nothing is in flight begins a transaction or a `WAIT`, not both. -/
theorem perform_oneInFlight (o : Origin) (i : Instr) {s : State} (hp : s.seq.phase = .idle)
    (hw : s.waitActive = false) : (perform o i s).OneInFlight := by
  cases i with
  | wait k => exact fun _ => hp
  | _ => exact .of_no_wait (by simp [perform, hw])

theorem exec_oneInFlight {i : Instr} {s t : State} (hi : i.wellFormed = true) (hb : s.busy = false)
    (he : exec i s = .next t) : t.OneInFlight := by
  obtain ⟨hp, -, hw⟩ := s.busy_eq_false_iff.1 hb
  by_cases hn : i = .init
  · subst hn
    simp only [exec, execInit] at he
    split at he <;> cases he <;> exact .of_no_wait hw
  · rw [exec_eq_perform i s hi hn] at he
    cases he
    exact perform_oneInFlight _ _ hp hw

theorem Acts.oneInFlight {s t : State} (h : Acts s t) (hs : s.OneInFlight) : t.OneInFlight := by
  cases h with
  | operation i t hb hi he => exact exec_oneInFlight hi hb he
  | initOp i hp hw _ _ => exact perform_oneInFlight _ _ hp hw
  | phase hp => exact .of_no_wait (by simpa using mt hs hp)
  | waitEnds _ _ => exact .of_no_wait rfl
  | initStepEnds _ hw _ => exact .of_no_wait (by simpa using hw)
  | _ => exact hs

end Sys2Proof.Machine
end

section
/-! PROOFS. The statements on 20_memory.md: repeated writes, and one transaction or `WAIT` in flight. -/

namespace Sys2Proof.Machine

/-- Settles O19: the repeated pin write is a `Step()` alone, and the repeated `SETC` writes `DUTY` with what it holds. -/
theorem repeatedWritesChangeNothing : Obligations.RepeatedWritesChangeNothing := by
  intro i s t u hi hform ht hu
  have hinit : i ≠ .init := by rintro rfl; simp at hform
  rw [exec_eq_perform i _ hi hinit] at ht hu
  cases ht
  cases hu
  rcases hform with ⟨tg, d, rfl⟩ | ⟨l, v, rfl, hd⟩ | ⟨b, rfl, hd⟩ | ⟨v, rfl⟩
  · simp [perform, cfgdirBody_twice tg d _ s hi]
  · simp [perform, wrlineBody_twice l v _ s hi hd]
  · simp [perform, wrbusBody_twice b _ s hd]
  · simp [perform]

/-- Settles O54: an operation begins only while neither is in flight, and begins at most one of them. -/
theorem stepKeepsOneInFlight : Obligations.StepKeepsOneInFlight := fun _ _ hs h =>
  step_keeps State.OneInFlight (fun _ _ _ h => h) (fun _ _ => rfl) Acts.oneInFlight hs h

end Sys2Proof.Machine
end

section
/-! PROOFS. The fields of an op word and the layout that joins them (30_encoding.md R81), the operand codes against
their readings (R82, R84, R86), and when the checks of R90 pass, for the statements on 30_encoding.md below. -/

namespace Sys2Proof

/-! ### The fields of a word as numbers (30_encoding.md R81) -/

@[simp] theorem opField_toNat (w : Word) : (opField w).toNat = w.toNat / 4096 := by
  simp only [opField, BitVec.extractLsb'_toNat, Nat.shiftRight_eq_div_pow]
  omega

@[simp] theorem reservedField_toNat (w : Word) : (reservedField w).toNat = w.toNat / 512 % 8 := by
  simp [reservedField, Nat.shiftRight_eq_div_pow]

@[simp] theorem bitEight_toNat (w : Word) : (bitEight w).toNat = w.toNat / 256 % 2 :=
  Nat.toNat_testBit w.toNat 8

theorem bitEight_iff (w : Word) : bitEight w = true ↔ w.toNat / 256 % 2 = 1 := by
  rw [← bitEight_toNat, Bool.toNat_eq_one]

@[simp] theorem lowByte_toNat (w : Word) : (lowByte w).toNat = w.toNat % 256 := by
  simp [lowByte]

theorem layout_toNat (op : BitVec 4) (v : Bool) (d : Byte) :
    (layout op v d).toNat = op.toNat * 4096 + v.toNat * 256 + d.toNat := by
  have hd := d.isLt
  have hv : v.toNat < 2 := v.toNat_lt
  simp only [layout, BitVec.toNat_append, BitVec.toNat_ofBool]
  rw [← Nat.shiftLeft_add_eq_or_of_lt hd]
  simp only [BitVec.toNat_ofNat, Nat.zero_mod, Nat.zero_shiftLeft, Nat.zero_or]
  rw [← Nat.shiftLeft_add_eq_or_of_lt (by omega)]
  omega

/-! ### The layout and the fields are inverse -/

@[simp] theorem opField_layout (op : BitVec 4) (v : Bool) (d : Byte) : opField (layout op v d) = op := by
  have hv : v.toNat < 2 := v.toNat_lt
  apply BitVec.eq_of_toNat_eq
  rw [opField_toNat, layout_toNat]
  omega

@[simp] theorem reservedField_layout (op : BitVec 4) (v : Bool) (d : Byte) : reservedField (layout op v d) = 0#3 := by
  have hv : v.toNat < 2 := v.toNat_lt
  apply BitVec.eq_of_toNat_eq
  rw [reservedField_toNat, layout_toNat]
  simp only [BitVec.toNat_ofNat]
  omega

@[simp] theorem bitEight_layout (op : BitVec 4) (v : Bool) (d : Byte) : bitEight (layout op v d) = v := by
  rw [Bool.eq_iff_iff, bitEight_iff, layout_toNat, ← Bool.toNat_eq_one (b := v)]
  have hv : v.toNat < 2 := v.toNat_lt
  omega

@[simp] theorem lowByte_layout (op : BitVec 4) (v : Bool) (d : Byte) : lowByte (layout op v d) = d := by
  apply BitVec.eq_of_toNat_eq
  rw [lowByte_toNat, layout_toNat]
  omega

theorem layout_of_fields {w : Word} (h : reservedField w = 0#3) :
    layout (opField w) (bitEight w) (lowByte w) = w := by
  have hr : w.toNat / 512 % 8 = 0 := by simpa using congrArg BitVec.toNat h
  apply BitVec.eq_of_toNat_eq
  rw [layout_toNat, opField_toNat, bitEight_toNat, lowByte_toNat]
  omega

/-! ### The operand codes (30_encoding.md R82, R84, R86; 20_memory.md R61) -/

@[simp] theorem directionOfBit_bitOfDirection (d : Direction) : directionOfBit (bitOfDirection d) = d := by
  cases d <;> rfl

@[simp] theorem levelOfBit_bitOfLevel (v : Level) : levelOfBit (bitOfLevel v) = v := by
  cases v <;> rfl

@[simp] theorem modeOfBit_bitOfMode (m : Mode) : modeOfBit (bitOfMode m) = m := by
  cases m <;> rfl

@[simp] theorem bitOfDirection_directionOfBit (v : Bool) : bitOfDirection (directionOfBit v) = v := by
  cases v <;> rfl

@[simp] theorem bitOfLevel_levelOfBit (v : Bool) : bitOfLevel (levelOfBit v) = v := by
  cases v <;> rfl

@[simp] theorem bitOfMode_modeOfBit (v : Bool) : bitOfMode (modeOfBit v) = v := by
  cases v <;> rfl

@[simp] theorem delayOfCode_codeOfDelay (k : DelayKind) : delayOfCode (codeOfDelay k) = some k := by
  cases k <;> rfl

theorem codeOfDelay_of_delayOfCode {c : Byte} {k : DelayKind} (h : delayOfCode c = some k) : codeOfDelay k = c := by
  unfold delayOfCode at h
  split at h <;> cases h <;> exact BitVec.eq_of_toNat_eq (Eq.symm ‹_›)

theorem delayOfCode_eq_none_iff (c : Byte) : delayOfCode c = none ↔ 3 < c.toNat := by
  unfold delayOfCode
  split
  case h_5 =>
    simp only [imp_false] at *
    simp only [true_iff]
    omega
  all_goals simp [*]

/-- A line of the block is read back from its designator. -/
theorem lineOfDesignator_designatorOfLine {l : Line} (h : l.wellFormed = true) :
    lineOfDesignator (designatorOfLine l) = some l := by
  cases l with
  | cs k =>
    obtain rfl : k = 0 := by simpa [Line.wellFormed, Config.nCS] using h
    rfl
  | _ => rfl

theorem designatorOfLine_of_lineOfDesignator {d : Byte} {l : Line} (h : lineOfDesignator d = some l) :
    designatorOfLine l = d := by
  unfold lineOfDesignator at h
  split at h
  case h_8 =>
    split at h
    · next hcs =>
      cases h
      have hsum : 0x20 + (d.toNat - 0x20) = d.toNat := by omega
      simp [designatorOfLine, hsum]
    · cases h
  all_goals cases h; exact BitVec.eq_of_toNat_eq (Eq.symm ‹_›)

theorem lineOfDesignator_eq_none_iff (d : Byte) :
    lineOfDesignator d = none ↔ ¬(d.toNat ≤ 0x06 ∨ (0x20 ≤ d.toNat ∧ d.toNat < 0x20 + Config.nCS)) := by
  unfold lineOfDesignator
  split
  case h_8 =>
    simp only [imp_false] at *
    have hbig : ¬d.toNat ≤ 0x06 := by omega
    simp [hbig]
  all_goals simp [*]

/-- What a `CFGDIR` may name is read back from its designator: no line has the designator of the bus. -/
theorem targetOfDesignator_designatorOfTarget {t : Target} (h : t.wellFormed = true) :
    targetOfDesignator (designatorOfTarget t) = some t := by
  cases t with
  | bus => rfl
  | line l =>
    have hl : lineOfDesignator (designatorOfLine l) = some l := lineOfDesignator_designatorOfLine h
    have hbus : designatorOfLine l ≠ 0x10#8 := by
      intro hd
      have hnone : lineOfDesignator 0x10#8 = none := rfl
      simp [hd, hnone] at hl
    simp [targetOfDesignator, designatorOfTarget, hbus, hl]

theorem designatorOfTarget_of_targetOfDesignator {d : Byte} {t : Target} (h : targetOfDesignator d = some t) :
    designatorOfTarget t = d := by
  unfold targetOfDesignator at h
  split at h
  · next hd => cases h; exact hd.symm
  · obtain ⟨l, hl, rfl⟩ := Option.map_eq_some_iff.1 h
    exact designatorOfLine_of_lineOfDesignator hl

theorem targetOfDesignator_eq_none_iff (d : Byte) :
    targetOfDesignator d = none ↔
      ¬(d.toNat ≤ 0x06 ∨ d.toNat = 0x10 ∨ (0x20 ≤ d.toNat ∧ d.toNat < 0x20 + Config.nCS)) := by
  have hbus : d = 0x10#8 ↔ d.toNat = 0x10 := BitVec.toNat_inj.symm
  by_cases hd : d.toNat = 0x10
  · simp [targetOfDesignator, hbus, hd]
  · simp [targetOfDesignator, hbus, hd, lineOfDesignator_eq_none_iff]

/-! ### When the checks on `W[8]` and the low byte pass (30_encoding.md R85, R90) -/

@[simp] theorem operandOr_eq_ok {α : Type} (why : Illegal) (x : Option α) (f : α → Instr) (i : Instr) :
    operandOr why x f = .ok i ↔ ∃ a, x = some a ∧ f a = i := by
  cases x <;> simp [operandOr]

@[simp] theorem operandOr_rejects {α : Type} (why : Illegal) (x : Option α) (f : α → Instr) :
    (∃ e, operandOr why x f = .error e) ↔ x = none := by
  cases x <;> simp [operandOr]

@[simp] theorem withBitEightZero_eq_ok (v : Bool) (x : Except Illegal Instr) (i : Instr) :
    withBitEightZero v x = .ok i ↔ v = false ∧ x = .ok i := by
  cases v <;> simp [withBitEightZero]

@[simp] theorem withBitEightZero_rejects (v : Bool) (x : Except Illegal Instr) :
    (∃ e, withBitEightZero v x = .error e) ↔ v = true ∨ ∃ e, x = .error e := by
  cases v <;> simp [withBitEightZero]

@[simp] theorem withLowByteZero_eq_ok (d : Byte) (j i : Instr) :
    withLowByteZero d j = .ok i ↔ d = 0#8 ∧ j = i := by
  by_cases hd : d = 0#8 <;> simp [withLowByteZero, hd]

@[simp] theorem withLowByteZero_rejects (d : Byte) (j : Instr) :
    (∃ e, withLowByteZero d j = .error e) ↔ d.toNat ≠ 0 := by
  have hzero : d = 0#8 ↔ d.toNat = 0 := BitVec.toNat_inj.symm
  by_cases hd : d.toNat = 0 <;> simp [withLowByteZero, hzero, hd]

/-! ### The decoder (30_encoding.md R83, R85, R90) -/

theorem decodeOperands_of_not_opcodeDefined {op : BitVec 4} (h : opcodeDefined op = false) (v : Bool) (d : Byte) :
    decodeOperands op v d = .error .opcode := by
  have hop : ¬(1 ≤ op.toNat ∧ op.toNat ≤ 10) := by simpa [opcodeDefined] using h
  unfold decodeOperands
  split
  case h_11 => rfl
  all_goals omega

/-- Once `W[11:9]` is 000 the operands' decoder says everything: it rejects an undefined opcode itself. -/
theorem decode_of_reservedField_zero {w : Word} (h : reservedField w = 0#3) :
    decode w = decodeOperands (opField w) (bitEight w) (lowByte w) := by
  cases hop : opcodeDefined (opField w) with
  | true => simp [decode, hop, h]
  | false => simp [decode, hop, decodeOperands_of_not_opcodeDefined hop]

theorem decode_layout (op : BitVec 4) (v : Bool) (d : Byte) : decode (layout op v d) = decodeOperands op v d := by
  simp [decode_of_reservedField_zero]

theorem decode_rejects_of_reservedField {w : Word} (h : reservedField w ≠ 0#3) : ∃ why, decode w = .error why := by
  cases hop : opcodeDefined (opField w) with
  | true => exact ⟨.reservedBits, by simp [decode, hop, h]⟩
  | false => exact ⟨.opcode, by simp [decode, hop]⟩

theorem reservedField_zero_of_decode_ok {w : Word} {i : Instr} (h : decode w = .ok i) : reservedField w = 0#3 := by
  by_contra hr
  obtain ⟨why, hw⟩ := decode_rejects_of_reservedField hr
  simp [h] at hw

/-- Row by row of 30_encoding.md R83: the fields that decode to an operation are those of its word, and the operation is
no pseudo-operation. -/
theorem encode_of_decodeOperands {op : BitVec 4} {v : Bool} {d : Byte} {i : Instr}
    (h : decodeOperands op v d = .ok i) : encode i = layout op v d ∧ i.core = i := by
  have hop {n : Nat} (hn : op.toNat = n) : op = BitVec.ofNat 4 n := by simp [← hn]
  unfold decodeOperands at h
  split at h <;> rename_i hn
  case h_1 => -- `CFGDIR`
    obtain ⟨t, ht, rfl⟩ := (operandOr_eq_ok ..).1 h
    simp [encode, Instr.core, hop hn, designatorOfTarget_of_targetOfDesignator ht]
  case h_2 => -- `WRLINE`
    obtain ⟨l, hl, rfl⟩ := (operandOr_eq_ok ..).1 h
    simp [encode, Instr.core, hop hn, designatorOfLine_of_lineOfDesignator hl]
  case h_4 => -- `EXEC`
    cases h
    simp [encode, Instr.core, hop hn]
  case h_3 | h_5 => -- `WRBUS`, `SETC`
    obtain ⟨rfl, h⟩ := (withBitEightZero_eq_ok ..).1 h
    cases h
    simp [encode, Instr.core, hop hn]
  case h_7 => -- `WAIT`
    obtain ⟨rfl, h⟩ := (withBitEightZero_eq_ok ..).1 h
    obtain ⟨k, hk, rfl⟩ := (operandOr_eq_ok ..).1 h
    simp [encode, Instr.core, hop hn, codeOfDelay_of_delayOfCode hk]
  case h_6 | h_8 | h_9 | h_10 => -- format Z
    obtain ⟨rfl, h⟩ := (withBitEightZero_eq_ok ..).1 h
    obtain ⟨rfl, rfl⟩ := (withLowByteZero_eq_ok ..).1 h
    simp [encode, Instr.core, hop hn]
  case h_11 => cases h

/-- The conditions of 30_encoding.md R85 apart from the one on `W[11:9]`, on the fields. -/
theorem decodeOperands_rejects (op : BitVec 4) (v : Bool) (d : Byte) :
    (∃ why, decodeOperands op v d = .error why) ↔
      (op.toNat = 0 ∨ 0xB ≤ op.toNat) ∨
      (v = true ∧ op.toNat ∈ [0x3, 0x5, 0x7, 0x6, 0x8, 0x9, 0xA]) ∨
      (d.toNat ≠ 0 ∧ op.toNat ∈ [0x6, 0x8, 0x9, 0xA]) ∨
      (op.toNat = 0x1 ∧
        ¬(d.toNat ≤ 0x06 ∨ d.toNat = 0x10 ∨ (0x20 ≤ d.toNat ∧ d.toNat < 0x20 + Config.nCS))) ∨
      (op.toNat = 0x2 ∧ ¬(d.toNat ≤ 0x06 ∨ (0x20 ≤ d.toNat ∧ d.toNat < 0x20 + Config.nCS))) ∨
      (op.toNat = 0x7 ∧ 3 < d.toNat) := by
  unfold decodeOperands
  split
  case h_11 =>
    simp only [imp_false] at *
    have hop : op.toNat = 0 ∨ 0xB ≤ op.toNat := by omega
    simp [hop]
  all_goals
    simp [*, targetOfDesignator_eq_none_iff, lineOfDesignator_eq_none_iff, delayOfCode_eq_none_iff]

end Sys2Proof

namespace Sys2Proof.Machine

/-! ### The operation port (30_encoding.md R80, 60_exceptions.md R223) -/

theorem runWord_of_ok {w : Word} {i : Instr} (h : decode w = .ok i) (s : State) : runWord w s = exec i s := by
  simp [runWord, h]

theorem runWord_of_error {w : Word} {why : Illegal} (h : decode w = .error why) (s : State) :
    runWord w s = .next (s.illegalWord w) := by
  simp [runWord, h]

/-- The turn of an unheld host with a word to issue is the port's acceptance of that word. -/
theorem mainStep_of_stream {s : State} {w : Word} {ws : List Word} (hb : s.busy = false)
    (hh : s.host = .stream (w :: ws)) : mainStep s = runWord w { s with host := .stream ws } := by
  simp [mainStep, hostStep, hb, hh]

theorem step_of_turns_nil {s : State} (h : s.turns = []) : step s = mainStep s := by
  simp [step, turnStep, h]

theorem step_of_turns_main {s : State} {ts : List Turn} (h : s.turns = .main :: ts) :
    step s = mainStep { s with turns := ts } := by
  simp [step, turnStep, h]

end Sys2Proof.Machine
end

section
/-! PROOFS. The statements on 30_encoding.md: the encoder against the decoder, the illegal words, the port, the delay
codes. -/

namespace Sys2Proof.Machine

/-- Settles O2: the fields of a layout are what it joins, and each row's operand is read back from its code. -/
theorem decodeInvertsEncode : Obligations.DecodeInvertsEncode := by
  intro i hi
  cases i with
  | cfgdir t d =>
    have ht : targetOfDesignator (designatorOfTarget t) = some t := targetOfDesignator_designatorOfTarget hi
    simp [encode, decode_layout, decodeOperands, ht, Instr.core]
  | wrline l v =>
    have hl : lineOfDesignator (designatorOfLine l) = some l := lineOfDesignator_designatorOfLine hi
    simp [encode, decode_layout, decodeOperands, hl, Instr.core]
  | exec b m => simp [encode, decode_layout, decodeOperands, Instr.core]
  | wrbyte b => exact decode_layout _ _ _
  | wait k => simp [encode, decode_layout, decodeOperands, Instr.core]
  | _ => exact decode_layout _ _ _

/-- Settles O3: an accepted word has `W[11:9]` zero, so it is the layout of its fields, which are those of the
operation's word. -/
theorem encodeInvertsDecode : Obligations.EncodeInvertsDecode := by
  intro w i h
  have hr : reservedField w = 0#3 := reservedField_zero_of_decode_ok h
  obtain ⟨henc, hcore⟩ := encode_of_decodeOperands (decode_of_reservedField_zero hr ▸ h)
  exact ⟨henc.trans (layout_of_fields hr), decode_wellFormed w i h, hcore⟩

/-- Settles O4: `W[11:9]` rejects by itself, and the other conditions are those of the operands' decoder. -/
theorem illegalWordsAreExactlyTheRules : Obligations.IllegalWordsAreExactlyTheRules := by
  refine fun w => ⟨?_, fun s ⟨why, h⟩ => runWord_of_error h s⟩
  have hzero : reservedField w = 0#3 ↔ w.toNat / 512 % 8 = 0 := by
    rw [← BitVec.toNat_inj, reservedField_toNat]
    rfl
  by_cases hr : reservedField w = 0#3
  · have hr' : ¬w.toNat / 512 % 8 ≠ 0 := not_not.2 (hzero.1 hr)
    rw [decode_of_reservedField_zero hr, decodeOperands_rejects, bitEight_iff, opField_toNat, lowByte_toNat,
      or_iff_right hr']
  · exact iff_of_true (decode_rejects_of_reservedField hr) (.inr (.inl (mt hzero.2 hr)))

/-- Settles O1: each word of the table is evaluated. -/
theorem workedEncodingsDecode : Obligations.WorkedEncodingsDecode := by
  unfold Obligations.WorkedEncodingsDecode
  decide

/-- Settles O5: the turn is the host's whether `turns` is empty or headed by `main`, and the port runs the operation or
takes the fault. -/
theorem stepRunsTheDecodedInstruction : Obligations.StepRunsTheDecodedInstruction := by
  refine ⟨fun s w ws i hb hh hw => ⟨fun ht => ?_, fun ts ht => ?_⟩,
    fun s w ws why hb hh hw => ⟨fun ht => ?_, fun ts ht => ?_⟩⟩
  · rw [step_of_turns_nil ht, mainStep_of_stream hb hh, runWord_of_ok hw]
  · rw [step_of_turns_main ht, mainStep_of_stream (s := { s with turns := ts }) hb hh, runWord_of_ok hw]
  · rw [step_of_turns_nil ht, mainStep_of_stream hb hh, runWord_of_error hw]
    rfl
  · rw [step_of_turns_main ht, mainStep_of_stream (s := { s with turns := ts }) hb hh, runWord_of_error hw]
    rfl

/-- Settles O41: the four codes by O2, and a word `0x7000 + c` is the layout of opcode 7 and the code `c`. -/
theorem delayCodesRequestTheirIntervals : Obligations.DelayCodesRequestTheirIntervals := by
  have hcode (k : DelayKind) : decode (encode (.wait k)) = .ok (.wait k) := decodeInvertsEncode (.wait k) rfl
  refine ⟨hcode .setup, rfl, hcode .postData, rfl, hcode .postCmd, rfl, hcode .settle, rfl, fun c h4 hc => ?_⟩
  have hword : BitVec.ofNat 16 (0x7000 + c) = layout 0x7#4 false (BitVec.ofNat 8 c) := by
    apply BitVec.eq_of_toNat_eq
    rw [layout_toNat]
    simp only [BitVec.toNat_ofNat, Bool.toNat_false]
    omega
  have hnone : delayOfCode (BitVec.ofNat 8 c) = none := by
    rw [delayOfCode_eq_none_iff, BitVec.toNat_ofNat]
    omega
  simp [hword, decode_layout, decodeOperands, withBitEightZero, hnone, operandOr]

end Sys2Proof.Machine
end

section
/-! PROOFS. Which events a step adds for what shows on the pins (40_pin_bus.md R103), the whole state after a change of
one line or of the bus, and what a line write and a bus write make of the pin registers, for the statements on
40_pin_bus.md below. -/

namespace Sys2Proof.Machine

/-! ### The pin and bus events of a change -/

theorem pin_mem_pinEvents (before after : Pins) (t n : Nat) (l : Line) (d : Direction) (v : Level) :
    Event.pin n l d v ∈ pinEvents before after t ↔
      l.wellFormed = true ∧ n = t ∧ d = after.dir l ∧ v = after.pin l ∧
        ¬(after.dir l = before.dir l ∧ after.pin l = before.pin l) := by
  simp only [pinEvents, List.mem_map, List.mem_filter, mem_allLines, decide_eq_true_eq, Event.pin.injEq]
  constructor
  · rintro ⟨l', ⟨hw, hne⟩, rfl, rfl, rfl, rfl⟩
    exact ⟨hw, rfl, rfl, rfl, hne⟩
  · rintro ⟨hw, rfl, rfl, rfl, hne⟩
    exact ⟨l, ⟨hw, hne⟩, rfl, rfl, rfl, rfl⟩

theorem bus_not_mem_pinEvents (before after : Pins) (t n : Nat) (d : Direction) (b : Byte) :
    Event.bus n d b ∉ pinEvents before after t := by
  simp [pinEvents]

theorem bus_mem_busEvents (before after : Pins) (t n : Nat) (d : Direction) (b : Byte) :
    Event.bus n d b ∈ busEvents before after t ↔
      n = t ∧ d = after.busDir ∧ b = after.pinBus ∧
        ¬(after.busDir = before.busDir ∧ after.pinBus = before.pinBus) := by
  unfold busEvents
  split <;> simp [*]

theorem pin_not_mem_busEvents (before after : Pins) (t n : Nat) (l : Line) (d : Direction) (v : Level) :
    Event.pin n l d v ∉ busEvents before after t := by
  unfold busEvents
  split <;> simp

/-- The event is a `PinEvent` or a `BusEvent`. -/
def Event.isPinChange : Event → Bool
  | .pin _ _ _ _ => true
  | .bus _ _ _ => true
  | .latch _ => false
  | .delay _ _ _ => false
  | .fault _ _ _ => false
  | .tickRead _ _ => false
  | .dutyWrite _ _ => false
  | .initDone _ => false

section
variable {new : List Event} (h : ∀ e ∈ new, e.isPinChange = false)
include h

theorem pin_not_mem_of_no_change (n : Nat) (l : Line) (d : Direction) (v : Level) : Event.pin n l d v ∉ new :=
  fun he => Bool.noConfusion (h _ he)

theorem bus_not_mem_of_no_change (n : Nat) (d : Direction) (b : Byte) : Event.bus n d b ∉ new :=
  fun he => Bool.noConfusion (h _ he)

end

/-- After the pin and bus events of a `Commit` come only faults and a latch event (60_exceptions.md R225). -/
theorem changePins_trace_split (s : State) (p : Pins) (o : Origin) :
    ∃ rest, (s.changePins p o).trace = s.trace ++ (pinEvents s.pins p s.now ++ (busEvents s.pins p s.now ++ rest)) ∧
      ∀ e ∈ rest, e.isPinChange = false := by
  simp only [State.changePins, commit_trace]
  refine ⟨_, rfl, fun e he => ?_⟩
  rcases List.mem_append.1 he with he | he
  · simp only [List.mem_ite_nil_right, List.mem_singleton] at he
    rw [he.2]
    rfl
  · simp only [List.mem_ite_nil_right, List.mem_append, List.mem_singleton] at he
    rcases he with ⟨_, ⟨_, rfl⟩ | ⟨_, rfl⟩ | rfl⟩ <;> rfl

/-! ### Register files that show the same -/

/-- Every line of the block has the same direction and pin level in both, and so has the bus (10_state.md R25). -/
structure Pins.LooksLike (p q : Pins) : Prop where
  line : ∀ l, l.wellFormed = true → p.dir l = q.dir l ∧ p.pin l = q.pin l
  bus : p.busDir = q.busDir ∧ p.pinBus = q.pinBus

theorem Pins.LooksLike.of_eq {p q : Pins} (h : p = q) : p.LooksLike q := by
  subst h
  exact ⟨fun _ _ => ⟨rfl, rfl⟩, rfl, rfl⟩

/-- Nothing shows of a write to the latch of a line that is not an output. -/
theorem Pins.setOut_looksLike {p : Pins} {l : Line} (v : Level) (hw : l.wellFormed = true) (hd : p.dir l = .input) :
    (p.setOut l v).LooksLike p := by
  refine ⟨fun l' _ => ?_, rfl, rfl⟩
  by_cases hl : l' = l
  · subst hl
    exact ⟨p.dir_setOut_same _ v hw, p.pin_setOut_input _ v hw hd⟩
  · exact ⟨p.dir_setOut_ne l l' v hl, p.pin_setOut_ne l l' v hl⟩

/-- Nothing shows of a write to the latch of a bus that is not an output. -/
theorem Pins.setBusOut_looksLike {p : Pins} (b : Byte) (hd : p.busDir = .input) : (p.setBusOut b).LooksLike p :=
  ⟨fun _ _ => ⟨rfl, rfl⟩, rfl, p.pinBus_setBusOut_input b hd⟩

/-! ### What is recorded of a change, update by update and action by action -/

/-- What 40_pin_bus.md R103 says of the trace from `s` to `t`, every change being made at the `NOW` of `t`. An action
changes the pins at most once, after its `Step()`; two such changes one after the other would not satisfy this. -/
def PinsRecorded (s t : State) : Prop :=
  ∃ new : List Event, t.trace = s.trace ++ new ∧
    (∀ n l d v, Event.pin n l d v ∈ new ↔
      l.wellFormed = true ∧ n = t.now ∧ d = t.pins.dir l ∧ v = t.pins.pin l ∧
        ¬(t.pins.dir l = s.pins.dir l ∧ t.pins.pin l = s.pins.pin l)) ∧
    (∀ n d b, Event.bus n d b ∈ new ↔
      n = t.now ∧ d = t.pins.busDir ∧ b = t.pins.pinBus ∧
        ¬(t.pins.busDir = s.pins.busDir ∧ t.pins.pinBus = s.pins.pinBus))

/-- An update that nothing shows of, and that appends no pin or bus event. -/
theorem PinsRecorded.of_looksLike {s t : State} {new : List Event} (hpins : t.pins.LooksLike s.pins)
    (htrace : t.trace = s.trace ++ new) (hnew : ∀ e ∈ new, e.isPinChange = false) : PinsRecorded s t := by
  obtain ⟨hline, hbus⟩ := hpins
  refine ⟨new, htrace, fun n l d v => ?_, fun n d b => ?_⟩
  · exact iff_of_false (pin_not_mem_of_no_change hnew n l d v) fun ⟨hw, _, _, _, hne⟩ => hne (hline l hw)
  · exact iff_of_false (bus_not_mem_of_no_change hnew n d b) fun ⟨_, _, _, hne⟩ => hne hbus

/-- An update that leaves the pins and appends one event of another kind. -/
theorem PinsRecorded.of_event {s t : State} {e : Event} (hpins : t.pins = s.pins) (htrace : t.trace = s.trace ++ [e])
    (he : e.isPinChange = false) : PinsRecorded s t :=
  .of_looksLike (.of_eq hpins) htrace (by simpa using he)

/-- An update that leaves the pins and the trace. -/
theorem PinsRecorded.of_eq {s t : State} (hpins : t.pins = s.pins) (htrace : t.trace = s.trace) : PinsRecorded s t :=
  .of_looksLike (new := []) (.of_eq hpins) (by simp [htrace]) (by simp)

theorem PinsRecorded.of_stepTime {s t : State} (h : PinsRecorded s.stepTime t) : PinsRecorded s t := h

theorem PinsRecorded.toPhase {s t : State} (h : PinsRecorded s t) (p : Phase) : PinsRecorded s (t.toPhase p) := h

theorem PinsRecorded.changePins (s : State) (p : Pins) (o : Origin) : PinsRecorded s (s.changePins p o) := by
  obtain ⟨rest, htrace, hrest⟩ := changePins_trace_split s p o
  refine ⟨_, htrace, fun n l d v => ?_, fun n d b => ?_⟩
  · simp [pin_mem_pinEvents, pin_not_mem_busEvents, pin_not_mem_of_no_change hrest]
  · simp [bus_mem_busEvents, bus_not_mem_pinEvents, bus_not_mem_of_no_change hrest]

theorem PinsRecorded.lineWrite (s : State) {l : Line} (v : Level) (o : Origin) (hw : l.wellFormed = true) :
    PinsRecorded s (s.lineWrite l v o) := by
  cases hd : s.pins.dir l with
  | output => exact lineWrite_output s l v o hd ▸ .changePins _ _ _
  | input =>
    rw [lineWrite_input s l v o hd]
    exact .of_looksLike (Pins.setOut_looksLike _ hw hd) rfl (by simp [Event.isPinChange])

theorem PinsRecorded.busWrite (s : State) (b : Byte) (o : Origin) : PinsRecorded s (s.busWrite b o) := by
  cases hd : s.pins.busDir with
  | output => exact busWrite_output s b o hd ▸ .changePins _ _ _
  | input =>
    rw [busWrite_input s b o hd]
    exact .of_looksLike (Pins.setBusOut_looksLike _ hd) rfl (by simp [Event.isPinChange])

theorem perform_pinsRecorded (o : Origin) {i : Instr} (s : State) (hi : i.wellFormed = true) :
    PinsRecorded s (perform o i s) := by
  cases i with
  | cfgdir t d => exact .of_stepTime (.changePins _ _ _)
  | wrline l v => exact .of_stepTime (.lineWrite _ v o hi)
  | wrbus b => exact .of_stepTime (.busWrite _ b o)
  | setc _ | wait _ | rdtick => exact .of_event rfl rfl rfl
  | _ => exact .of_eq rfl rfl

theorem exec_pinsRecorded {i : Instr} {s t : State} (hi : i.wellFormed = true) (he : exec i s = .next t) :
    PinsRecorded s t := by
  by_cases hn : i = .init
  · subst hn
    simp only [exec, execInit] at he
    split at he <;> cases he
    · exact .of_eq rfl rfl
    · exact .of_event rfl rfl rfl
  · rw [exec_eq_perform i s hi hn] at he
    cases he
    exact perform_pinsRecorded _ _ hi

theorem phaseStep_pinsRecorded (s : State) : PinsRecorded s (phaseStep s) := by
  unfold phaseStep
  split
  case h_1 => exact .of_eq rfl rfl
  case h_2 | h_3 | h_6 => exact .of_stepTime ((PinsRecorded.lineWrite _ _ _ rfl).toPhase _)
  case h_4 => exact .of_stepTime ((PinsRecorded.busWrite _ _ _).toPhase _)
  case h_5 | h_7 => exact .of_event rfl rfl rfl

theorem endInitStep_pinsRecorded (s : State) : PinsRecorded s (endInitStep s) := by
  unfold endInitStep
  split
  · exact .of_event rfl rfl rfl
  · exact .of_eq rfl rfl

theorem Acts.pinsRecorded {s t : State} (h : Acts s t) : PinsRecorded s t := by
  cases h with
  | illegal w why _ _ => exact .of_event rfl rfl rfl
  | operation i t _ hi he => exact exec_pinsRecorded hi he
  | phase _ => exact phaseStep_pinsRecorded s
  | initOp i _ _ _ hi => exact perform_pinsRecorded _ { s with ini := _ } (initOps_forms _ _ hi).1
  | initStepEnds _ _ _ => exact endInitStep_pinsRecorded s
  | _ => exact .of_eq rfl rfl

/-! ### The whole state after a change of one line -/

theorem Pins.pin_setDir_same (p : Pins) (l : Line) (d : Direction) (hw : l.wellFormed = true) :
    (p.setDir l d).pin l = if d = .output then p.out l else Config.ext l := by
  cases d with
  | output => rw [Pins.pin_of_output _ _ (p.dir_setDir_same l _ hw), p.out_setDir_same l _ hw, if_pos rfl]
  | input => rw [Pins.pin_of_input _ _ (p.dir_setDir_same l _ hw), if_neg nofun]

/-- A change of the pins touches no register but those of the pins, the arbiter, `FAULT` and `TRACE`
(40_pin_bus.md R103). -/
theorem changePins_eq (s : State) (p : Pins) (o : Origin) :
    s.changePins p o =
      { s with
        pins := p
        arb := (s.changePins p o).arb
        fault := (s.changePins p o).fault
        trace := (s.changePins p o).trace } := by
  apply State.ext <;> simp

/-- The two register files show the same but on the line `l`. -/
structure Pins.LineOnly (before after : Pins) (l : Line) : Prop where
  dir : ∀ l', l' ≠ l → after.dir l' = before.dir l'
  pin : ∀ l', l' ≠ l → after.pin l' = before.pin l'
  busDir : after.busDir = before.busDir
  pinBus : after.pinBus = before.pinBus

theorem Pins.lineOnly_setDir (p : Pins) (l : Line) (d : Direction) : p.LineOnly (p.setDir l d) l :=
  ⟨fun l' h => p.dir_setDir_ne l l' d h, fun l' h => p.pin_setDir_ne l l' d h, rfl, rfl⟩

theorem Pins.lineOnly_setOut (p : Pins) (l : Line) (v : Level) : p.LineOnly (p.setOut l v) l :=
  ⟨fun l' h => p.dir_setOut_ne l l' v h, fun l' h => p.pin_setOut_ne l l' v h, rfl, rfl⟩

section
variable {before after : Pins} {l : Line} (h : before.LineOnly after l)
include h

theorem Pins.LineOnly.modeOrBusMoved :
    modeOrBusMoved before after = decide (l = .mode ∧ after.pin l ≠ before.pin l) := by
  by_cases hl : l = .mode
  · simp [Machine.modeOrBusMoved, h.pinBus, hl]
  · simp [Machine.modeOrBusMoved, h.pinBus, h.pin _ (Ne.symm hl), hl]

theorem Pins.LineOnly.strobeMoved :
    strobeMoved before after = decide (l = .e ∧ after.pin l ≠ before.pin l) := by
  by_cases hl : l = .e
  · simp [Machine.strobeMoved, hl]
  · simp [Machine.strobeMoved, h.pin _ (Ne.symm hl), hl]

theorem Pins.LineOnly.fallingEdge :
    fallingEdge before after = decide (l = .e ∧ before.pin .e = .high ∧ after.pin l = .low) := by
  by_cases hl : l = .e
  · simp [Machine.fallingEdge, hl]
  · simp [Machine.fallingEdge, h.pin _ (Ne.symm hl), hl, level_not_high_and_low]

theorem Pins.LineOnly.pinEvents (hw : l.wellFormed = true) (t : Nat) :
    pinEvents before after t =
      if after.dir l ≠ before.dir l ∨ after.pin l ≠ before.pin l then [.pin t l (after.dir l) (after.pin l)]
      else [] := by
  rw [pinEvents_one_line before after l t hw fun l' hl => ⟨h.dir l' hl, h.pin l' hl⟩]
  simp only [ne_eq, ← not_and_or, ite_not]

end

theorem Pins.LineOnly.addressed {before after : Pins} (h : before.LineOnly after .e) :
    after.addressed = before.addressed := by
  simp [Pins.addressed, h.pin]

/-- `Commit` after a change that shows on one line only (40_pin_bus.md R103): if `E` falls then `MODE` and the bus have
not moved, so the setup check sees the old `T_STABLE` and the latch event the other pins as they were. -/
theorem changePins_of_lineOnly {s : State} {p : Pins} {l : Line} (hw : l.wellFormed = true)
    (h : s.pins.LineOnly p l) (o : Origin) :
    let moved := p.pin l ≠ s.pins.pin l
    let edge := l = .e ∧ s.pins.pin .e = .high ∧ p.pin l = .low
    s.changePins p o =
      { s with
        pins := p
        arb :=
          { tFree := if edge then s.now + intervalOf (postDelayOf (modeOfLevel (s.pins.pin .mode))) else s.arb.tFree
            tStable := if l = .mode ∧ moved then s.now else s.arb.tStable }
        fault := s.fault
          ||| (if (l = .mode ∨ l = .e) ∧ moved ∧ s.now < s.arb.tFree then Cause.rate.mask else 0)
          ||| (if edge ∧ s.now - s.arb.tStable < Config.tSetup then Cause.setup.mask else 0)
          ||| (if edge ∧ s.pins.pin .rw = .high then Cause.readStrobe.mask else 0)
        trace := s.trace
          ++ (if p.dir l ≠ s.pins.dir l ∨ moved then [.pin s.now l (p.dir l) (p.pin l)] else [])
          ++ (if (l = .mode ∨ l = .e) ∧ moved ∧ s.now < s.arb.tFree then [.fault s.now .rate .plain] else [])
          ++ (if edge ∧ s.now - s.arb.tStable < Config.tSetup then [.fault s.now .setup .plain] else [])
          ++ (if edge ∧ s.pins.pin .rw = .high then [.fault s.now .readStrobe .plain] else [])
          ++ (if edge then [.latch (s.latchRecord o)] else []) } := by
  intro moved edge
  have hmoved : modeOrBusMoved s.pins p = decide (l = .mode ∧ moved) := h.modeOrBusMoved
  have hstrobe : strobeMoved s.pins p = decide (l = .e ∧ moved) := h.strobeMoved
  have hfall : fallingEdge s.pins p = decide edge := h.fallingEdge
  have hrate : ((decide (l = .mode ∧ moved) || decide (l = .e ∧ moved)) && decide (s.now < s.arb.tFree)) =
      decide ((l = .mode ∨ l = .e) ∧ moved ∧ s.now < s.arb.tFree) := by
    simp only [← Bool.decide_or, ← Bool.decide_and, ← or_and_right, and_assoc]
  rw [changePins_eq]
  simp only [State.changePins, commit_arb, commit_fault, commit_trace, State.rateViolated, hmoved, hstrobe, hfall, hrate,
    h.pinEvents hw, busEvents_none _ _ _ h.busDir h.pinBus]
  by_cases hedge : edge
  · obtain rfl : l = .e := hedge.1
    simp [hedge, moved, h.pin, h.pinBus, h.addressed, State.latchRecord]
  · simp [hedge, moved]

/-! ### The whole state after a change of the bus -/

/-- The two register files show the same on every line. -/
structure Pins.BusOnly (before after : Pins) : Prop where
  dir : ∀ l, after.dir l = before.dir l
  pin : ∀ l, after.pin l = before.pin l

theorem Pins.busOnly_setBusDir (p : Pins) (d : Direction) : p.BusOnly (p.setBusDir d) :=
  ⟨fun _ => rfl, fun _ => rfl⟩

theorem Pins.busOnly_setBusOut (p : Pins) (b : Byte) : p.BusOnly (p.setBusOut b) :=
  ⟨fun _ => rfl, fun _ => rfl⟩

/-- `Commit` after a change that shows on the bus only (40_pin_bus.md R103): `E` has not moved, so there is no latch
event. -/
theorem changePins_of_busOnly {s : State} {p : Pins} (h : s.pins.BusOnly p) (o : Origin) :
    let moved := p.pinBus ≠ s.pins.pinBus
    s.changePins p o =
      { s with
        pins := p
        arb := { s.arb with tStable := if moved then s.now else s.arb.tStable }
        fault := s.fault ||| (if moved ∧ s.now < s.arb.tFree then Cause.rate.mask else 0)
        trace := s.trace
          ++ (if p.busDir ≠ s.pins.busDir ∨ moved then [.bus s.now p.busDir p.pinBus] else [])
          ++ (if moved ∧ s.now < s.arb.tFree then [.fault s.now .rate .plain] else []) } := by
  intro moved
  have hbus : busEvents s.pins p s.now =
      if p.busDir ≠ s.pins.busDir ∨ moved then [.bus s.now p.busDir p.pinBus] else [] := by
    simp only [busEvents, moved, ne_eq, ← not_and_or, ite_not]
  have hmoved : modeOrBusMoved s.pins p = decide moved := by simp [modeOrBusMoved, h.pin, moved]
  have hstrobe : strobeMoved s.pins p = false := by simp [strobeMoved, h.pin]
  have hfall : fallingEdge s.pins p = false := by simp [fallingEdge, h.pin, level_not_high_and_low]
  rw [changePins_eq]
  simp [State.changePins, commit_arb, commit_fault, commit_trace, State.rateViolated, hbus, hmoved, hstrobe, hfall,
    pinEvents_none _ _ _ fun l => ⟨h.dir l, h.pin l⟩]

/-! ### The registers an operation leaves -/

@[simp] theorem configure_duty (p : Pwm) : p.configure.duty = p.duty := rfl

/-- `WRLINE` writes the latch of its line and no other pin register, with its operand or a drawn level
(40_pin_bus.md R101). -/
theorem wrlineBody_pins (l : Line) (v : Level) (o : Origin) (s : State) :
    ∃ x, (wrlineBody l v o s).pins = s.pins.setOut l x := by
  unfold wrlineBody State.lineWrite
  split
  · exact ⟨v, changePins_pins _ _ _⟩
  · exact ⟨_, rfl⟩

/-- `WRBUS` writes the latch of the bus and no other pin register, with its operand or a drawn byte
(40_pin_bus.md R102). -/
theorem wrbusBody_pins (b : Byte) (o : Origin) (s : State) :
    ∃ x, (wrbusBody b o s).pins = s.pins.setBusOut x := by
  unfold wrbusBody State.busWrite
  split
  · exact ⟨b, changePins_pins _ _ _⟩
  · exact ⟨_, rfl⟩

end Sys2Proof.Machine
end

section
/-! PROOFS. The statements on 40_pin_bus.md: the events of every step, the whole next state of the pin operations, and
what every operation may change. -/

namespace Sys2Proof.Machine

/-- Settles O31: an action changes the pins at most once, by a `Commit` at its last `NOW`, and nothing shows of its other
updates. -/
theorem traceRecordsEveryPinChange : Obligations.TraceRecordsEveryPinChange := by
  intro s t h hr
  obtain ⟨ts, ha, hact⟩ := step_acts h hr
  exact hact.pinsRecorded

/-- Settles O12: a direction write shows on its own line only. -/
theorem cfgdirLineResult : Obligations.CfgdirLineResult := by
  intro l d s hw t level moved edge
  have hbody : exec (.cfgdir (.line l) d) s = .next (s.stepTime.changePins (s.pins.setDir l d) .raw) :=
    exec_eq_perform _ s hw nofun
  rw [hbody, changePins_of_lineOnly (s := s.stepTime) hw (s.pins.lineOnly_setDir l d)]
  simp only [Pins.dir_setDir_same _ _ _ hw, Pins.pin_setDir_same _ _ _ hw]
  rfl

/-- Settles O13: a direction write of the bus shows on no line. -/
theorem cfgdirBusResult : Obligations.CfgdirBusResult := by
  intro d s t byte moved
  have hbody : exec (.cfgdir .bus d) s = .next (s.stepTime.changePins (s.pins.setBusDir d) .raw) :=
    exec_eq_perform _ s rfl nofun
  rw [hbody, changePins_of_busOnly (s := s.stepTime) (s.pins.busOnly_setBusDir d)]
  simp only [Pins.pinBus_setBusDir, Pins.busDir_setBusDir]
  rfl

/-- Settles O14: a latch write shows on its own line only, and on an output the pin is the latch. -/
theorem wrlineOnOutputResult : Obligations.WrlineOnOutputResult := by
  intro l v s hw hd t moved edge
  have hbody : exec (.wrline l v) s = .next (wrlineBody l v .raw s) := exec_eq_perform _ s hw nofun
  have hedge : (l = .e ∧ s.pins.pin .e = .high ∧ v = .low) = edge :=
    propext (and_congr_right fun hl => by rw [Pins.pin_of_output _ _ (hl ▸ hd)])
  rw [hbody, wrlineBody_of_output v .raw hd,
    changePins_of_lineOnly (s := s.stepTime) hw (s.pins.lineOnly_setOut l v)]
  simp only [Pins.dir_setOut_same _ _ _ hw, Pins.pin_setOut_output _ _ _ hw hd, Pins.pin_of_output _ _ hd,
    stepTime_pins, hd, hedge, ne_eq, not_true_eq_false, false_or]
  rfl

/-- Settles O16: a latch write of the bus shows on no line, and on an output the byte on the pins is the latch. -/
theorem wrbusOnOutputResult : Obligations.WrbusOnOutputResult := by
  intro b s hd t moved
  have hbody : exec (.wrbus b) s = .next (wrbusBody b .raw s) := exec_eq_perform _ s rfl nofun
  rw [hbody, wrbusBody_of_output b .raw hd, changePins_of_busOnly (s := s.stepTime) (s.pins.busOnly_setBusOut b)]
  simp only [Pins.pinBus_setBusOut_output _ _ hd, Pins.pinBus_of_output _ hd, Pins.busDir_setBusOut, stepTime_pins, hd,
    ne_eq, not_true_eq_false, false_or]
  rfl

/-- Settles O21, operation by operation, from what its body leaves of every field. -/
theorem execFrame : Obligations.ExecFrame := by
  intro i s t he
  have hi : i.wellFormed = true := (onlyMissingLinesStop i s).1 ⟨t, he⟩
  by_cases hn : i = .init
  · subst hn
    simp only [exec, execInit] at he
    split at he <;> cases he <;> simp
  · rw [exec_eq_perform i s hi hn] at he
    cases he
    cases i with
    | wrline l v => simpa [perform] using wrlineBody_pins l v .raw s
    | wrbus b => simpa [perform] using wrbusBody_pins b .raw s
    | _ => simp [perform]

/-- Settles O15: nothing shows of a latch write on an input line. -/
theorem wrlineOnInputFaults : Obligations.WrlineOnInputFaults := by
  intro l v s hw hd
  have hbody : exec (.wrline l v) s = .next (s.stepTime.lineWrite l v .raw) := exec_eq_perform _ s hw nofun
  exact ⟨_, _, hbody.trans (congrArg _ (lineWrite_input s.stepTime l v .raw hd)),
    fun l' hl' => ((Pins.setOut_looksLike _ hw hd).line l' hl').2⟩

/-- Settles O17: nothing shows of a latch write on an input bus. -/
theorem wrbusOnInputFaults : Obligations.WrbusOnInputFaults := by
  intro b s hd
  have hbody : exec (.wrbus b) s = .next (s.stepTime.busWrite b .raw) := exec_eq_perform _ s rfl nofun
  exact ⟨_, _, hbody.trans (congrArg _ (busWrite_input s.stepTime b .raw hd)), (Pins.setBusOut_looksLike _ hd).bus.2⟩

end Sys2Proof.Machine
end

section
/-! PROOFS. What every action makes of the latch events, of `T_FREE`, of the two faults of a latch and of the setup time, for
the statements on 41_transaction_sequencer.md below. -/

namespace Sys2Proof.Machine

/-! ### Latch events and falling edges of `E` (41_transaction_sequencer.md R126, R127) -/

/-- Only the latch events of a trace say when it is free. -/
theorem freeAfter_filter_isLatch (es : List Event) : freeAfter (es.filter Event.isLatch) = freeAfter es := by
  have hany (es : List Event) : (es.filter Event.isLatch).any Event.isLatch = es.any Event.isLatch := by
    simp [List.any_filter]
  induction es with
  | nil => rfl
  | cons e es ih => cases e <;> simp [List.filter_cons, freeAfter, ih, hany, -List.any_eq_true]

theorem fallingEdge_of_pin_e_eq {before after : Pins} (h : after.pin .e = before.pin .e) :
    fallingEdge before after = false := by
  simp [fallingEdge, h, level_not_high_and_low]

/-- The latch events recorded from `s` to `t`, oldest first. -/
def LatchesAre (s t : State) (rs : List LatchRecord) : Prop :=
  ∃ new : List Event, t.trace = s.trace ++ new ∧ new.filter Event.isLatch = rs.map Event.latch

theorem LatchesAre.trans {s t u : State} {rs rs' : List LatchRecord} (h : LatchesAre s t rs)
    (k : LatchesAre t u rs') : LatchesAre s u (rs ++ rs') := by
  obtain ⟨new, ht, hr⟩ := h
  obtain ⟨new', hu, hr'⟩ := k
  exact ⟨new ++ new', by rw [hu, ht, List.append_assoc], by rw [List.filter_append, hr, hr', List.map_append]⟩

/-- A cause's mask has its own bit only (60_exceptions.md R221). -/
theorem mask_getLsbD (c c' : Cause) : c.mask.getLsbD c'.code = decide (c' = c) := by
  simpa using faulted_or_mask 0#6 c c'

theorem ite_mask_getLsbD (P : Prop) [Decidable P] (c c' : Cause) :
    (if P then c.mask else 0#6).getLsbD c'.code = (decide P && decide (c' = c)) := by
  by_cases h : P <;> simp [h, mask_getLsbD]

theorem changePins_faulted_setup (s : State) (p : Pins) (o : Origin) :
    (s.changePins p o).faulted .setup = (s.faulted .setup ||
      (fallingEdge s.pins p && decide (s.now - (s.changePins p o).arb.tStable < Config.tSetup))) := by
  simp [State.faulted, State.changePins, commit_fault, commit_arb, ite_mask_getLsbD]

theorem changePins_faulted_readStrobe (s : State) (p : Pins) (o : Origin) :
    (s.changePins p o).faulted .readStrobe = (s.faulted .readStrobe ||
      (fallingEdge s.pins p && decide (p.pin .rw = .high))) := by
  simp [State.faulted, State.changePins, commit_fault, ite_mask_getLsbD]

theorem changePins_faulted_notOutput (s : State) (p : Pins) (o : Origin) :
    (s.changePins p o).faulted .notOutput = s.faulted .notOutput := by
  simp [State.faulted, State.changePins, commit_fault, ite_mask_getLsbD]

/-- What 41_transaction_sequencer.md R126, R127, R130 and R131 say of the way from `s` to `t` with at most one change of
the pins, made at the `NOW` of `t`: exactly if `E` fell, the setup and read-strobe checks, a latch event of the new pins,
and `T_FREE` from it. -/
structure LatchesAtEdge (o : Origin) (s t : State) : Prop where
  latches : LatchesAre s t (if fallingEdge s.pins t.pins then [t.latchRecord o] else [])
  tFree : t.arb.tFree = if fallingEdge s.pins t.pins then
    t.now + intervalOf (postDelayOf (modeOfLevel (t.pins.pin .mode))) else s.arb.tFree
  setup : t.faulted .setup = (s.faulted .setup ||
    (fallingEdge s.pins t.pins && decide (t.now - t.arb.tStable < Config.tSetup)))
  readStrobe : t.faulted .readStrobe = (s.faulted .readStrobe ||
    (fallingEdge s.pins t.pins && decide (t.pins.pin .rw = .high)))

/-- An update that does not move `E`, leaves the arbiter and the two faults of a latch, and appends no latch event. -/
theorem LatchesAtEdge.of_quiet {o : Origin} {s t : State} {new : List Event} (he : t.pins.pin .e = s.pins.pin .e)
    (harb : t.arb = s.arb) (hfault : ∀ c, c = .setup ∨ c = .readStrobe → t.faulted c = s.faulted c)
    (htrace : t.trace = s.trace ++ new) (hnew : ∀ e ∈ new, e.isLatch = false) : LatchesAtEdge o s t := by
  have hfall : fallingEdge s.pins t.pins = false := fallingEdge_of_pin_e_eq he
  exact ⟨⟨new, htrace, by simpa [hfall] using hnew⟩, by simp [hfall, harb], by simp [hfall, hfault],
    by simp [hfall, hfault]⟩

/-- An update that leaves the pins, the arbiter and the faults and appends one event of another kind. -/
theorem LatchesAtEdge.of_event {o : Origin} {s t : State} {e : Event} (hpins : t.pins = s.pins)
    (harb : t.arb = s.arb) (hfault : t.fault = s.fault) (htrace : t.trace = s.trace ++ [e]) (he : e.isLatch = false) :
    LatchesAtEdge o s t :=
  .of_quiet (by rw [hpins]) harb (fun _ _ => by rw [State.faulted, hfault, State.faulted]) htrace (by simpa using he)

/-- An update that leaves the pins, the arbiter, the faults and the trace. -/
theorem LatchesAtEdge.of_eq {o : Origin} {s t : State} (hpins : t.pins = s.pins) (harb : t.arb = s.arb)
    (hfault : t.fault = s.fault) (htrace : t.trace = s.trace) : LatchesAtEdge o s t :=
  .of_quiet (new := []) (by rw [hpins]) harb (fun _ _ => by rw [State.faulted, hfault, State.faulted])
    (by simp [htrace]) (by simp)

/-- An update that does not move `E`, leaves the arbiter, and raises a fault that is not a latch's. -/
theorem LatchesAtEdge.of_raise {o : Origin} {s t : State} {c : Cause} {d : FaultDetail}
    (hc : c ≠ .setup ∧ c ≠ .readStrobe) (he : t.pins.pin .e = s.pins.pin .e) (harb : t.arb = s.arb)
    (hfault : t.fault = s.fault ||| c.mask) (htrace : t.trace = s.trace ++ [.fault s.now c d]) :
    LatchesAtEdge o s t := by
  refine .of_quiet he harb (fun c' hc' => ?_) htrace (by simp)
  rcases hc' with rfl | rfl <;> simp [State.faulted, hfault, mask_getLsbD, hc.1.symm, hc.2.symm]

theorem LatchesAtEdge.of_stepTime {o : Origin} {s t : State} (h : LatchesAtEdge o s.stepTime t) :
    LatchesAtEdge o s t :=
  ⟨h.latches, h.tFree, h.setup, h.readStrobe⟩

theorem LatchesAtEdge.toPhase {o : Origin} {s t : State} (h : LatchesAtEdge o s t) (p : Phase) :
    LatchesAtEdge o s (t.toPhase p) :=
  ⟨h.latches, h.tFree, h.setup, h.readStrobe⟩

theorem LatchesAtEdge.changePins (s : State) (p : Pins) (o : Origin) : LatchesAtEdge o s (s.changePins p o) := by
  refine ⟨⟨_, by simp only [State.changePins, commit_trace]; rfl, ?_⟩, by simp [State.changePins, commit_arb],
    by simp [changePins_faulted_setup], by simp [changePins_faulted_readStrobe]⟩
  have hpin (t : Nat) : (pinEvents s.pins p t).filter Event.isLatch = [] := by
    simp [pinEvents, List.filter_map, Function.comp_def]
  have hbus (t : Nat) : (busEvents s.pins p t).filter Event.isLatch = [] := by unfold busEvents; split <;> simp
  simp only [List.filter_append, apply_ite (List.filter Event.isLatch), hpin, hbus]
  by_cases hfall : fallingEdge s.pins p <;> simp [hfall, State.latchRecord]

theorem LatchesAtEdge.lineWrite (s : State) {l : Line} (v : Level) (o : Origin) (hw : l.wellFormed = true) :
    LatchesAtEdge o s (s.lineWrite l v o) := by
  cases hd : s.pins.dir l with
  | output => exact lineWrite_output s l v o hd ▸ .changePins _ _ _
  | input =>
    rw [lineWrite_input s l v o hd]
    exact .of_raise (by decide) ((Pins.setOut_looksLike _ hw hd).line .e rfl).2 rfl rfl rfl

theorem LatchesAtEdge.busWrite (s : State) (b : Byte) (o : Origin) : LatchesAtEdge o s (s.busWrite b o) := by
  cases hd : s.pins.busDir with
  | output => exact busWrite_output s b o hd ▸ .changePins _ _ _
  | input =>
    rw [busWrite_input s b o hd]
    exact .of_raise (by decide) rfl rfl rfl rfl

theorem perform_latchesAtEdge (o : Origin) {i : Instr} (s : State) (hi : i.wellFormed = true) :
    LatchesAtEdge o s (perform o i s) := by
  cases i with
  | cfgdir t d => exact .of_stepTime (.changePins _ _ _)
  | wrline l v => exact .of_stepTime (.lineWrite _ v o hi)
  | wrbus b => exact .of_stepTime (.busWrite _ b o)
  | setc _ | wait _ | rdtick => exact .of_event rfl rfl rfl rfl rfl
  | _ => exact .of_eq rfl rfl rfl rfl

theorem exec_latchesAtEdge {i : Instr} {s t : State} (hi : i.wellFormed = true) (he : exec i s = .next t) :
    LatchesAtEdge .raw s t := by
  by_cases hn : i = .init
  · subst hn
    simp only [exec, execInit] at he
    split at he <;> cases he
    · exact .of_eq rfl rfl rfl rfl
    · exact .of_raise (by decide) rfl rfl rfl rfl
  · rw [exec_eq_perform i s hi hn] at he
    cases he
    exact perform_latchesAtEdge _ _ hi

theorem phaseStep_latchesAtEdge (s : State) : LatchesAtEdge .exec s (phaseStep s) := by
  unfold phaseStep
  split
  case h_1 => exact .of_eq rfl rfl rfl rfl
  case h_2 | h_3 | h_6 => exact .of_stepTime ((LatchesAtEdge.lineWrite _ _ _ rfl).toPhase _)
  case h_4 => exact .of_stepTime ((LatchesAtEdge.busWrite _ _ _).toPhase _)
  case h_5 | h_7 => exact .of_event rfl rfl rfl rfl rfl

theorem endInitStep_latchesAtEdge (s : State) : LatchesAtEdge .init s (endInitStep s) := by
  unfold endInitStep
  split
  · exact .of_event rfl rfl rfl rfl rfl
  · exact .of_eq rfl rfl rfl rfl

/-- Every action latches exactly at the falling edges of `E` it makes, whatever their origin
(41_transaction_sequencer.md R127). -/
theorem Acts.latchesAtEdge {s t : State} (h : Acts s t) : ∃ o, LatchesAtEdge o s t := by
  cases h with
  | illegal w why _ _ => exact ⟨.raw, .of_stepTime (.of_raise (by decide) rfl rfl rfl rfl)⟩
  | operation i t _ hi he => exact ⟨.raw, exec_latchesAtEdge hi he⟩
  | phase _ => exact ⟨.exec, phaseStep_latchesAtEdge s⟩
  | initOp i _ _ _ hi =>
    obtain ⟨hlatches, hfree, hsetup, hstrobe⟩ :=
      perform_latchesAtEdge .init { s with ini := { s.ini with op := s.ini.op + 1 } } (initOps_forms _ _ hi).1
    exact ⟨.init, hlatches, hfree, hsetup, hstrobe⟩
  | initStepEnds _ _ _ => exact ⟨.init, endInitStep_latchesAtEdge s⟩
  | _ => exact ⟨.raw, .of_eq rfl rfl rfl rfl⟩

theorem Acts.freeFromLatch {s t : State} (h : Acts s t) (hs : s.FreeFromLatch) : t.FreeFromLatch := by
  obtain ⟨o, ⟨new, htrace, hnew⟩, hfree, -, -⟩ := h.latchesAtEdge
  have hafter : freeAfter t.trace =
      freeAfter (s.trace.filter Event.isLatch ++ new.filter Event.isLatch) := by
    rw [← List.filter_append, ← htrace, freeAfter_filter_isLatch]
  rw [State.FreeFromLatch, hfree, hafter, hnew]
  split
  · rw [List.map_singleton, freeAfter_append_latch]
    rfl
  · rw [List.map_nil, List.append_nil, freeAfter_filter_isLatch]
    exact hs

/-! ### The six phases (41_transaction_sequencer.md R122) -/

section
variable {s : State}

theorem phaseStep_of_p1 (h : s.seq.phase = .p1) :
    phaseStep s = (s.stepTime.lineWrite .mode (levelOfMode s.seq.mode) .exec).toPhase .p2 := by simp [phaseStep, h]

theorem phaseStep_of_p2 (h : s.seq.phase = .p2) :
    phaseStep s = (s.stepTime.lineWrite .e .high .exec).toPhase .p3 := by simp [phaseStep, h]

theorem phaseStep_of_p3 (h : s.seq.phase = .p3) :
    phaseStep s = (s.stepTime.busWrite s.seq.payload .exec).toPhase .p4 := by simp [phaseStep, h]

theorem phaseStep_of_p4 (h : s.seq.phase = .p4) :
    phaseStep s = (s.sleep .setup).toPhase .p5 := by simp [phaseStep, h]

theorem phaseStep_of_p5 (h : s.seq.phase = .p5) :
    phaseStep s = (s.stepTime.lineWrite .e .low .exec).toPhase .p6 := by simp [phaseStep, h]

theorem phaseStep_of_p6 (h : s.seq.phase = .p6) :
    phaseStep s = (s.sleep (postDelayOf s.seq.mode)).endTransaction := by simp [phaseStep, h]

end

/-! ### The setup time before phase 5 (41_transaction_sequencer.md R130, R135(a)) -/

theorem State.SetupHeld.tStable_le {s : State} (h : s.SetupHeld) : s.arb.tStable ≤ s.now := h.1

theorem State.SetupHeld.setup_time {s : State} (h : s.SetupHeld) (hp : s.seq.phase = .p5) :
    s.arb.tStable + Config.tSetup ≤ s.now := h.2 hp

/-- While a transaction is in flight no action but its next phase, a generator clock or a tick event is possible
(41_transaction_sequencer.md R132). -/
theorem Acts.of_phase_ne_idle {s t : State} (h : Acts s t) (hp : s.seq.phase ≠ .idle) :
    t = phaseStep s ∨ t = genStep s ∨ t = tickEvent s := by
  cases h with
  | waits hb | ownTime hb | illegal _ _ hb _ | operation _ _ hb _ _ => exact absurd (s.busy_eq_false_iff.1 hb).1 hp
  | waitEnds hp' _ | initOp _ hp' _ _ _ | initStepEnds hp' _ _ => exact absurd hp' hp
  | phase _ => exact .inl rfl
  | generator => exact .inr (.inl rfl)
  | tick => exact .inr (.inr rfl)

theorem Acts.tStable_le {s t : State} (h : Acts s t) : s.arb.tStable ≤ s.now → t.arb.tStable ≤ t.now :=
  acts_rel (fun s t => s.arb.tStable ≤ s.now → t.arb.tStable ≤ t.now) (fun _ => id) (fun hab hbc => hbc ∘ hab)
    (time := fun _ hs => Nat.le_add_right_of_le hs)
    (sleep := fun _ _ hs => Nat.le_add_right_of_le hs)
    (raise := fun _ _ _ hs => hs)
    (change := fun _ p o hs => by simpa using changePins_tStable_le hs p o)
    (draw := fun _ _ _ hs => hs)
    (seq := fun _ _ _ hs => hs)
    (wait := fun _ _ hs => hs)
    (pwm := fun _ _ hs => hs)
    (tick := fun _ _ hs => hs)
    (resp := fun _ _ hs => hs)
    (op := fun _ _ hs => hs)
    (duty := fun _ _ hs => hs)
    (tread := fun _ _ hs => hs)
    (begi := fun _ _ hs => hs)
    (endi := fun _ _ hs => by simpa using hs) h

theorem Acts.setupHeld {s t : State} (h : Acts s t) (hs : s.SetupHeld) : t.SetupHeld := by
  refine ⟨Acts.tStable_le h hs.tStable_le, fun hp5 => ?_⟩
  by_cases hp : s.seq.phase = .idle
  · simpa [hp5] using h.phase_of_idle hp
  · rcases h.of_phase_ne_idle hp with rfl | rfl | rfl
    · have hp4 : s.seq.phase = .p4 := by
        rw [phaseStep_phase] at hp5
        cases hq : s.seq.phase <;> simp_all [Phase.next]
      have hstable : s.arb.tStable ≤ s.now := hs.tStable_le
      simp only [phaseStep_of_p4 hp4, toPhase_arb, sleep_arb, toPhase_now, sleep_now, intervalOf]
      omega
    · exact hs.setup_time hp5
    · exact hs.setup_time hp5

theorem phaseStep_now_le (s : State) : s.now ≤ (phaseStep s).now := by
  by_cases hp : s.seq.phase = .idle
  · simp [phaseStep, hp]
  · exact (Acts.phase hp).recordGrows.now

theorem phaseStep_setupHeld {s : State} (h : s.SetupHeld) : (phaseStep s).SetupHeld := by
  by_cases hp : s.seq.phase = .idle
  · simpa [phaseStep, hp] using h
  · exact (Acts.phase hp).setupHeld h

/-- Phase 5 moves neither `MODE` nor the bus. -/
theorem phaseStep_tStable_of_p5 {s : State} (hp : s.seq.phase = .p5) :
    (phaseStep s).arb.tStable = s.arb.tStable := by
  rw [phaseStep_of_p5 hp, toPhase_arb]
  cases hd : s.pins.dir .e with
  | output =>
    rw [lineWrite_output s.stepTime _ _ _ hd, changePins_of_lineOnly rfl (Pins.lineOnly_setOut _ _ _)]
    simp
  | input => rw [lineWrite_input s.stepTime _ _ _ hd]; rfl

/-- Phase 5 raises no `F_SETUP`, since phase 4 has left `T_SETUP` after `T_STABLE` (41_transaction_sequencer.md
R135(a)). -/
theorem phaseStep_faulted_setup_of_p5 {s : State} (h : s.SetupHeld) (hp : s.seq.phase = .p5) :
    (phaseStep s).faulted .setup = s.faulted .setup := by
  have hsetup : s.arb.tStable + Config.tSetup ≤ s.now := h.setup_time hp
  have hnow : s.now ≤ (phaseStep s).now := phaseStep_now_le s
  have hheld : ¬(phaseStep s).now - (phaseStep s).arb.tStable < Config.tSetup := by
    rw [phaseStep_tStable_of_p5 hp]
    omega
  simp [(phaseStep_latchesAtEdge s).setup, hheld]

end Sys2Proof.Machine
end

section
/-! PROOFS. The turns of the sequencer: what they leave of the port, and what each of the six phases does, for the statements
on 41_transaction_sequencer.md below. -/

namespace Sys2Proof.Machine

/-! ### The operation port while the block is busy (41_transaction_sequencer.md R132) -/

theorem mainStep_of_busy {s : State} (h : s.busy = true) : mainStep s = .next (sequencerStep s) := if_pos h

/-- The fields the host's side of the port owns are the same: the host, its words, the response channel, the turns. -/
structure PortHeld (s t : State) : Prop where
  host : t.host = s.host
  response : t.response = s.response
  turns : t.turns = s.turns

theorem perform_portHeld (o : Origin) {i : Instr} (s : State) (hi : i ≠ .rdtick) : PortHeld s (perform o i s) := by
  cases i with
  | rdtick => exact absurd rfl hi
  | _ => constructor <;> simp [perform]

theorem phaseStep_portHeld (s : State) : PortHeld s (phaseStep s) := by
  unfold phaseStep
  split <;> constructor <;> simp

theorem initStep_portHeld (s : State) : PortHeld s (initStep s) := by
  unfold initStep
  split
  · next i hi =>
    obtain ⟨-, -, hrdtick, -⟩ := initOps_forms _ _ (List.mem_of_getElem? hi)
    obtain ⟨hhost, hresponse, hturns⟩ :=
      perform_portHeld .init { s with ini := { s.ini with op := s.ini.op + 1 } } hrdtick
    exact ⟨hhost, hresponse, hturns⟩
  · constructor <;> simp

theorem sequencerStep_portHeld (s : State) : PortHeld s (sequencerStep s) := by
  unfold sequencerStep
  split
  · exact phaseStep_portHeld s
  · split
    · constructor <;> rfl
    · split
      · exact initStep_portHeld s
      · constructor <;> rfl

/-! ### What a phase of the transaction leaves (41_transaction_sequencer.md R122) -/

@[simp] theorem phaseStep_pwm (s : State) : (phaseStep s).pwm = s.pwm := by
  unfold phaseStep
  split <;> simp

@[simp] theorem phaseStep_tick (s : State) : (phaseStep s).tick = s.tick := by
  unfold phaseStep
  split <;> simp

@[simp] theorem phaseStep_host (s : State) : (phaseStep s).host = s.host := (phaseStep_portHeld s).host

@[simp] theorem phaseStep_response (s : State) : (phaseStep s).response = s.response :=
  (phaseStep_portHeld s).response

@[simp] theorem phaseStep_turns (s : State) : (phaseStep s).turns = s.turns := (phaseStep_portHeld s).turns

/-- A line write writes the latch of its line, with the operand if the line is an output (40_pin_bus.md R101). -/
theorem lineWrite_pins (s : State) (l : Line) (v : Level) (o : Origin) :
    (s.lineWrite l v o).pins =
      s.pins.setOut l (if s.pins.dir l = .output then v else Config.freeLevel s.draws) := by
  cases hd : s.pins.dir l with
  | output => simp [lineWrite_output s l v o hd]
  | input => simp [lineWrite_input s l v o hd]

/-- A bus write writes the latch of the bus, with the operand if the bus is an output (40_pin_bus.md R102). -/
theorem busWrite_pins (s : State) (b : Byte) (o : Origin) :
    (s.busWrite b o).pins = s.pins.setBusOut (if s.pins.busDir = .output then b else Config.freeByte s.draws) := by
  cases hd : s.pins.busDir with
  | output => simp [busWrite_output s b o hd]
  | input => simp [busWrite_input s b o hd]

/-- A latch write changes no direction. -/
theorem Pins.dir_setOut (p : Pins) (l l' : Line) (v : Level) (hw : l.wellFormed = true) :
    (p.setOut l v).dir l' = p.dir l' := by
  by_cases hl : l' = l
  · exact hl ▸ p.dir_setOut_same l' v (hl ▸ hw)
  · exact p.dir_setOut_ne l l' v hl

section
variable (p : Pins) (l : Line) (v : Level)

@[simp] theorem Pins.dir_setOut_mode : (p.setOut .mode v).dir l = p.dir l := p.dir_setOut _ _ _ rfl
@[simp] theorem Pins.dir_setOut_e : (p.setOut .e v).dir l = p.dir l := p.dir_setOut _ _ _ rfl

theorem Pins.pin_setOut_mode (h : p.dir .mode = .output) : (p.setOut .mode v).pin .mode = v :=
  p.pin_setOut_output _ v rfl h

theorem Pins.pin_setOut_e (h : p.dir .e = .output) : (p.setOut .e v).pin .e = v := p.pin_setOut_output _ v rfl h

end

/-- No phase changes the direction of a line. -/
@[simp] theorem phaseStep_dir (s : State) (l : Line) : (phaseStep s).pins.dir l = s.pins.dir l := by
  unfold phaseStep
  split <;> simp [lineWrite_pins, busWrite_pins]

/-- No phase changes the direction of the bus. -/
@[simp] theorem phaseStep_busDir (s : State) : (phaseStep s).pins.busDir = s.pins.busDir := by
  unfold phaseStep
  split <;> simp [lineWrite_pins, busWrite_pins]

/-- The level of the `E` pin after a phase, if `E` is an output: high from phase 2, low from phase 5
(41_transaction_sequencer.md R122). -/
def Phase.strobe : Phase → Level → Level
  | .p2, _ => .high
  | .p5, _ => .low
  | .idle, v => v
  | .p1, v => v
  | .p3, v => v
  | .p4, v => v
  | .p6, v => v

theorem phaseStep_pin_e {s : State} (h : s.pins.dir .e = .output) :
    (phaseStep s).pins.pin .e = s.seq.phase.strobe (s.pins.pin .e) := by
  unfold phaseStep
  split <;> simp [lineWrite_pins, busWrite_pins, Phase.strobe, Pins.pin_setOut_ne, Pins.pin_setOut_e, *]

/-- Only phase 5 lowers `E`. -/
theorem phaseStep_fallingEdge {s : State} (h : s.pins.dir .e = .output) :
    fallingEdge s.pins (phaseStep s).pins = decide (s.seq.phase = .p5 ∧ s.pins.pin .e = .high) := by
  rw [fallingEdge, phaseStep_pin_e h]
  cases s.seq.phase <;> simp [Phase.strobe, level_not_high_and_low]

theorem sequencerStep_of_phase_ne_idle {s : State} (h : s.seq.phase ≠ .idle) : sequencerStep s = phaseStep s :=
  if_pos h

/-- From phase 1, six turns of the sequencer are the six phases. -/
theorem sequencerStep_six {s : State} (h : s.seq.phase = .p1) : sequencerStep^[6] s = phaseStep^[6] s := by
  simp [Function.iterate_succ_apply', sequencerStep_of_phase_ne_idle, h, Phase.next]

/-- A phase without a falling edge adds no latch event. -/
theorem phaseStep_latches_none {s : State} (hd : s.pins.dir .e = .output) (hp : s.seq.phase ≠ .p5) :
    LatchesAre s (phaseStep s) [] := by
  simpa [phaseStep_fallingEdge hd, hp] using (phaseStep_latchesAtEdge s).latches

/-- Phase 5 with `E` high makes one latch event, of the pins it leaves. -/
theorem phaseStep_latches_p5 {s : State} (hd : s.pins.dir .e = .output) (hp : s.seq.phase = .p5)
    (he : s.pins.pin .e = .high) : LatchesAre s (phaseStep s) [(phaseStep s).latchRecord .exec] := by
  simpa [phaseStep_fallingEdge hd, hp, he] using (phaseStep_latchesAtEdge s).latches

/-- The whole transaction with `E` an output makes one latch event, in its fifth phase
(41_transaction_sequencer.md R127). -/
theorem transaction_latches {s : State} (hd : s.pins.dir .e = .output) (hp : s.seq.phase = .p1) :
    LatchesAre s (phaseStep^[6] s) [(phaseStep^[5] s).latchRecord .exec] := by
  have h1 := phaseStep_latches_none hd (by simp [hp])
  have h2 := phaseStep_latches_none (s := phaseStep^[1] s) (by simp [hd]) (by simp [hp, Phase.next])
  have h3 := phaseStep_latches_none (s := phaseStep^[2] s) (by simp [hd]) (by simp [hp, Phase.next])
  have h4 := phaseStep_latches_none (s := phaseStep^[3] s) (by simp [hd]) (by simp [hp, Phase.next])
  have h5 := phaseStep_latches_p5 (s := phaseStep^[4] s) (by simp [hd]) (by simp [hp, Phase.next])
    (by simp [phaseStep_pin_e, hd, hp, Phase.next, Phase.strobe])
  have h6 := phaseStep_latches_none (s := phaseStep^[5] s) (by simp [hd]) (by simp [hp, Phase.next])
  exact ((((h1.trans h2).trans h3).trans h4).trans h5).trans h6

end Sys2Proof.Machine
end

section
/-! PROOFS. What the six phases make together, with the lines outputs and with the lines inputs, for the statements on
41_transaction_sequencer.md below. -/

namespace Sys2Proof.Machine

/-! ### The transaction with `MODE`, `E` and the bus outputs (41_transaction_sequencer.md R122, R136, R137) -/

@[simp] theorem modeOfLevel_levelOfMode (m : Mode) : modeOfLevel (levelOfMode m) = m := by cases m <;> rfl

/-- What a phase writes to the pin registers if every write takes effect. -/
def Sequencer.drive (q : Sequencer) (p : Pins) : Pins :=
  match q.phase with
  | .p1 => p.setOut .mode (levelOfMode q.mode)
  | .p2 => p.setOut .e .high
  | .p3 => p.setBusOut q.payload
  | .p5 => p.setOut .e .low
  | .idle => p
  | .p4 => p
  | .p6 => p

theorem State.execReady.mode_output {s : State} (h : s.execReady) : s.pins.dir .mode = .output := h.1
theorem State.execReady.e_output {s : State} (h : s.execReady) : s.pins.dir .e = .output := h.2.1
theorem State.execReady.bus_output {s : State} (h : s.execReady) : s.pins.busDir = .output := h.2.2

@[simp] theorem phaseStep_execReady (s : State) : (phaseStep s).execReady ↔ s.execReady := by
  simp [State.execReady]

theorem phaseStep_pins {s : State} (h : s.execReady) : (phaseStep s).pins = s.seq.drive s.pins := by
  obtain ⟨hmode, he, hbus⟩ := h
  unfold phaseStep Sequencer.drive
  split <;> simp [lineWrite_pins, busWrite_pins, *]

/-- `SEQ_MODE` stands until the transaction ends (10_state.md R26). -/
theorem phaseStep_mode {s : State} (h : s.seq.phase ≠ .p6) : (phaseStep s).seq.mode = s.seq.mode := by
  unfold phaseStep
  split <;> simp_all

/-- `SEQ_PAYLOAD` stands until the transaction ends (10_state.md R26). -/
theorem phaseStep_payload {s : State} (h : s.seq.phase ≠ .p6) : (phaseStep s).seq.payload = s.seq.payload := by
  unfold phaseStep
  split <;> simp_all

/-- No phase of a transaction on outputs raises `F_NOT_OUTPUT`. -/
theorem phaseStep_faulted_notOutput {s : State} (h : s.execReady) :
    (phaseStep s).faulted .notOutput = s.faulted .notOutput := by
  obtain ⟨hmode, he, hbus⟩ := h
  have hline {l : Line} (v : Level) (p : Phase) (hd : s.pins.dir l = .output) :
      ((s.stepTime.lineWrite l v .exec).toPhase p).faulted .notOutput = s.faulted .notOutput := by
    rw [lineWrite_output s.stepTime l v .exec hd]
    exact changePins_faulted_notOutput _ _ _
  unfold phaseStep
  split
  case h_2 => exact hline _ _ hmode
  case h_3 | h_6 => exact hline _ _ he
  case h_4 =>
    rw [busWrite_output s.stepTime _ .exec hbus]
    exact changePins_faulted_notOutput _ _ _
  case h_1 | h_5 | h_7 => rfl

/-- No phase raises `F_SETUP`: phase 5 has its setup time, and the others do not lower `E`. -/
theorem phaseStep_faulted_setup {s : State} (hd : s.pins.dir .e = .output) (h : s.SetupHeld) :
    (phaseStep s).faulted .setup = s.faulted .setup := by
  by_cases hp : s.seq.phase = .p5
  · exact phaseStep_faulted_setup_of_p5 h hp
  · simp [(phaseStep_latchesAtEdge s).setup, phaseStep_fallingEdge hd, hp]

theorem transaction_faulted_notOutput (n : Nat) {s : State} (h : s.execReady) :
    (phaseStep^[n] s).faulted .notOutput = s.faulted .notOutput := by
  induction n generalizing s with
  | zero => rfl
  | succ n ih => rw [Function.iterate_succ_apply, ih (by simpa using h), phaseStep_faulted_notOutput h]

theorem transaction_faulted_setup (n : Nat) {s : State} (hd : s.pins.dir .e = .output) (h : s.SetupHeld) :
    (phaseStep^[n] s).faulted .setup = s.faulted .setup := by
  induction n generalizing s with
  | zero => rfl
  | succ n ih =>
    rw [Function.iterate_succ_apply, ih (by simpa using hd) (phaseStep_setupHeld h), phaseStep_faulted_setup hd h]

/-- A phase without a falling edge raises no `F_READ_STROBE`. -/
theorem phaseStep_faulted_readStrobe {s : State} (hd : s.pins.dir .e = .output) (hp : s.seq.phase ≠ .p5) :
    (phaseStep s).faulted .readStrobe = s.faulted .readStrobe := by
  simp [(phaseStep_latchesAtEdge s).readStrobe, phaseStep_fallingEdge hd, hp]

theorem transaction_mode {s : State} (hp : s.seq.phase = .p1) : (phaseStep^[5] s).seq.mode = s.seq.mode := by
  simp [phaseStep_mode, hp, Phase.next]

/-- Phase 6 waits for the post-transaction delay of the mode. -/
theorem transaction_now {s : State} (hp : s.seq.phase = .p1) :
    (phaseStep^[5] s).now + intervalOf (postDelayOf s.seq.mode) ≤ (phaseStep^[6] s).now := by
  have hp6 : (phaseStep^[5] s).seq.phase = .p6 := by simp [hp, Phase.next]
  rw [Function.iterate_succ_apply' phaseStep 5, phaseStep_of_p6 hp6, transaction_mode hp]
  exact Nat.add_le_add_left (Nat.le_add_right _ _) _

section
variable {s : State} (hd : s.pins.dir .e = .output) (hp : s.seq.phase = .p1)
include hd hp

/-- Phase 5 finds `E` high, as phase 2 has left it, and lowers it. -/
theorem transaction_fallingEdge : fallingEdge (phaseStep^[4] s).pins (phaseStep^[5] s).pins = true := by
  rw [Function.iterate_succ_apply' phaseStep 4, phaseStep_fallingEdge (by simp [hd])]
  simp [phaseStep_pin_e, hd, hp, Phase.next, Phase.strobe]

/-- `F_READ_STROBE` is raised once, at the falling edge, if `RW` is high then (41_transaction_sequencer.md R131). -/
theorem transaction_faulted_readStrobe : (phaseStep^[6] s).faulted .readStrobe =
    (s.faulted .readStrobe || decide ((phaseStep^[5] s).pins.pin .rw = .high)) := by
  have h4 : (phaseStep^[4] s).faulted .readStrobe = s.faulted .readStrobe := by
    simp [phaseStep_faulted_readStrobe, hd, hp, Phase.next]
  have h5 : (phaseStep^[5] s).faulted .readStrobe = ((phaseStep^[4] s).faulted .readStrobe ||
      (fallingEdge (phaseStep^[4] s).pins (phaseStep^[5] s).pins && decide ((phaseStep^[5] s).pins.pin .rw = .high))) :=
    (phaseStep_latchesAtEdge (phaseStep^[4] s)).readStrobe
  have h6 : (phaseStep^[6] s).faulted .readStrobe = (phaseStep^[5] s).faulted .readStrobe :=
    phaseStep_faulted_readStrobe (s := phaseStep^[5] s) (by simp [hd]) (by simp [hp, Phase.next])
  rw [h6, h5, h4, transaction_fallingEdge hd hp, Bool.true_and]

end

/-- Phase 6 is a delay and moves no pin. -/
theorem transaction_pins_end {s : State} (hp : s.seq.phase = .p1) : (phaseStep^[6] s).pins = (phaseStep^[5] s).pins := by
  have hp6 : (phaseStep^[5] s).seq.phase = .p6 := by simp [hp, Phase.next]
  rw [Function.iterate_succ_apply' phaseStep 5, phaseStep_of_p6 hp6, endTransaction_pins, sleep_pins]

section
variable {s : State} (h : s.execReady) (hp : s.seq.phase = .p1)
include h hp

/-- After phase 5 the lines and the bus are as the phases have driven them. -/
theorem transaction_pins : (phaseStep^[5] s).pins =
    (((s.pins.setOut .mode (levelOfMode s.seq.mode)).setOut .e .high).setBusOut s.seq.payload).setOut .e .low := by
  simp [phaseStep_pins, h, phaseStep_payload, hp, Phase.next, Sequencer.drive]

/-- The latch event of phase 5: the payload and the mode of the transaction, and the other lines as they were
(41_transaction_sequencer.md R126, R137). -/
theorem transaction_latchRecord : (phaseStep^[5] s).latchRecord .exec =
    { time := (phaseStep^[5] s).now, mode := s.seq.mode, byte := s.seq.payload, rw := s.pins.pin .rw,
      reset := s.pins.pin .reset, master := s.pins.pin .masterEn, addressed := s.pins.addressed, origin := .exec } := by
  obtain ⟨hmode, he, hbus⟩ := h
  rw [State.latchRecord, transaction_pins ⟨hmode, he, hbus⟩ hp]
  simp [Pins.pin_setOut_ne, Pins.pin_setOut_mode, hmode, Pins.pinBus_setBusOut_output, hbus, Pins.addressed]

/-- `T_FREE` is counted from the falling edge of phase 5, by the transaction's own mode. -/
theorem transaction_tFree :
    (phaseStep^[6] s).arb.tFree = (phaseStep^[5] s).now + intervalOf (postDelayOf s.seq.mode) := by
  have hmode : modeOfLevel ((phaseStep^[5] s).pins.pin .mode) = s.seq.mode :=
    congrArg LatchRecord.mode (transaction_latchRecord h hp)
  have h6 : (phaseStep^[6] s).arb.tFree = (phaseStep^[5] s).arb.tFree := by
    have hp6 : (phaseStep^[5] s).seq.phase = .p6 := by simp [hp, Phase.next]
    rw [Function.iterate_succ_apply' phaseStep 5, phaseStep_of_p6 hp6, endTransaction_arb, sleep_arb]
  have h5 := (phaseStep_latchesAtEdge (phaseStep^[4] s)).tFree
  rw [h6, ← hmode]
  exact h5.trans (if_pos (transaction_fallingEdge h.e_output hp))

end

/-! ### The events of a transaction with no fault (41_transaction_sequencer.md R135, R136) -/

/-- From `s` to `t` exactly the events `new` are recorded, and no fault. -/
structure Records (s t : State) (new : List Event) : Prop where
  trace : t.trace = s.trace ++ new
  fault : t.fault = s.fault

theorem Records.trans {s t u : State} {new new' : List Event} (h : Records s t new) (k : Records t u new') :
    Records s u (new ++ new') :=
  ⟨by rw [k.trace, h.trace, List.append_assoc], k.fault.trans h.fault⟩

/-- Nothing that a phase of a transaction checks can fail: its lines are outputs, `RW` is low, the last latch edge's delay
is over, and phase 5 finds its setup time. -/
structure State.Unhindered (s : State) : Prop where
  ready : s.execReady
  rw : s.pins.pin .rw = .low
  free : s.arb.tFree ≤ s.now
  setup : s.SetupHeld

/-- A line write that does not lower `E` records the `PinEvent` of its line. -/
theorem lineWrite_records {s : State} {l : Line} {v : Level} (o : Origin) (hw : l.wellFormed = true)
    (hd : s.pins.dir l = .output) (hfree : s.arb.tFree ≤ s.now) (hrise : l = .e → v = .high) :
    Records s (s.lineWrite l v o) (if v ≠ s.pins.out l then [.pin (s.lineWrite l v o).now l .output v] else []) := by
  have hlate : ¬s.now < s.arb.tFree := Nat.not_lt.2 hfree
  have hedge : ¬(l = .e ∧ s.pins.pin .e = .high ∧ v = .low) := fun ⟨hl, _, hv⟩ => by simp [hrise hl] at hv
  rw [lineWrite_output s l v o hd, changePins_of_lineOnly hw (s.pins.lineOnly_setOut l v)]
  simp only [Pins.dir_setOut_same _ _ _ hw, Pins.pin_setOut_output _ _ _ hw hd, Pins.pin_of_output _ _ hd, hd, hlate]
  constructor <;> simp [hedge]

theorem busWrite_records {s : State} (b : Byte) (o : Origin) (hd : s.pins.busDir = .output)
    (hfree : s.arb.tFree ≤ s.now) :
    Records s (s.busWrite b o) (if b ≠ s.pins.busOut then [.bus (s.busWrite b o).now .output b] else []) := by
  have hlate : ¬s.now < s.arb.tFree := Nat.not_lt.2 hfree
  rw [busWrite_output s b o hd, changePins_of_busOnly (s.pins.busOnly_setBusOut b)]
  simp only [Pins.pinBus_setBusOut_output _ _ hd, Pins.pinBus_of_output _ hd, Pins.busDir_setBusOut, hd, hlate]
  constructor <;> simp

/-- A line write that lowers `E` with `RW` low and the setup time held records the `PinEvent` and the latch event. -/
theorem lineWrite_e_low_records {s : State} (o : Origin) (hd : s.pins.dir .e = .output) (he : s.pins.pin .e = .high)
    (hrw : s.pins.pin .rw = .low) (hfree : s.arb.tFree ≤ s.now) (hsetup : s.arb.tStable + Config.tSetup ≤ s.now) :
    Records s (s.lineWrite .e .low o)
      [.pin (s.lineWrite .e .low o).now .e .output .low, .latch ((s.lineWrite .e .low o).latchRecord o)] := by
  have hlate : ¬s.now < s.arb.tFree := Nat.not_lt.2 hfree
  have hheld : ¬s.now - s.arb.tStable < Config.tSetup := by omega
  rw [lineWrite_output s _ _ o hd, changePins_of_lineOnly rfl (s.pins.lineOnly_setOut .e .low)]
  constructor <;> simp [hlate, hheld, hd, he, hrw, Pins.pin_setOut_e, State.latchRecord, Pins.pin_setOut_ne,
    (s.pins.lineOnly_setOut .e .low).addressed]

section
variable {s : State} (h : s.Unhindered)
include h

theorem State.Unhindered.phaseStep (hp5 : s.seq.phase ≠ .p5) : (phaseStep s).Unhindered := by
  obtain ⟨hready, hrw, hfree, hsetup⟩ := h
  have hfree' : (Machine.phaseStep s).arb.tFree = s.arb.tFree := by
    simp [(phaseStep_latchesAtEdge s).tFree, phaseStep_fallingEdge hready.e_output, hp5]
  refine ⟨(phaseStep_execReady s).2 hready, ?_, hfree' ▸ hfree.trans (phaseStep_now_le s),
    phaseStep_setupHeld hsetup⟩
  rw [phaseStep_pins hready, Sequencer.drive]
  split <;> simpa [Pins.pin_setOut_ne] using hrw

theorem State.Unhindered.free_stepTime : s.stepTime.arb.tFree ≤ s.stepTime.now := Nat.le_add_right_of_le h.free

theorem phaseStep_records_p1 (hp : s.seq.phase = .p1) :
    Records s (phaseStep s) (if levelOfMode s.seq.mode ≠ s.pins.out .mode then
      [.pin (phaseStep s).now .mode .output (levelOfMode s.seq.mode)] else []) := by
  have hwrite := lineWrite_records (s := s.stepTime) (v := levelOfMode s.seq.mode) .exec rfl h.ready.mode_output
    h.free_stepTime nofun
  rw [phaseStep_of_p1 hp]
  exact ⟨hwrite.trace, hwrite.fault⟩

theorem phaseStep_records_p2 (hp : s.seq.phase = .p2) :
    Records s (phaseStep s) (if s.pins.out .e = .low then [.pin (phaseStep s).now .e .output .high] else []) := by
  have hlow : (.high ≠ s.pins.out .e) = (s.pins.out .e = .low) := by cases s.pins.out .e <;> simp
  have hwrite := lineWrite_records (s := s.stepTime) .exec rfl h.ready.e_output h.free_stepTime fun _ => rfl
  rw [phaseStep_of_p2 hp]
  simp only [stepTime_pins, hlow] at hwrite
  exact ⟨hwrite.trace, hwrite.fault⟩

theorem phaseStep_records_p3 (hp : s.seq.phase = .p3) :
    Records s (phaseStep s) (if s.seq.payload ≠ s.pins.busOut then
      [.bus (phaseStep s).now .output s.seq.payload] else []) := by
  have hwrite := busWrite_records (s := s.stepTime) s.seq.payload .exec h.ready.bus_output h.free_stepTime
  rw [phaseStep_of_p3 hp]
  exact ⟨hwrite.trace, hwrite.fault⟩

theorem phaseStep_records_p5 (hp : s.seq.phase = .p5) (he : s.pins.pin .e = .high) :
    Records s (phaseStep s)
      [.pin (phaseStep s).now .e .output .low, .latch ((phaseStep s).latchRecord .exec)] := by
  have hwrite := lineWrite_e_low_records (s := s.stepTime) .exec h.ready.e_output he h.rw h.free_stepTime
    (Nat.le_add_right_of_le (h.setup.setup_time hp))
  rw [phaseStep_of_p5 hp]
  exact ⟨hwrite.trace, hwrite.fault⟩

end

theorem phaseStep_records_p4 {s : State} (hp : s.seq.phase = .p4) :
    Records s (phaseStep s) [.delay s.now .setup Config.tSetup] := by
  rw [phaseStep_of_p4 hp]
  exact ⟨rfl, rfl⟩

theorem phaseStep_records_p6 {s : State} (hp : s.seq.phase = .p6) :
    Records s (phaseStep s)
      [.delay s.now (postDelayOf s.seq.mode) (intervalOf (postDelayOf s.seq.mode))] := by
  rw [phaseStep_of_p6 hp]
  exact ⟨rfl, rfl⟩

/-- The events of the six phases, in order (41_transaction_sequencer.md R135, R136). -/
theorem transaction_records {s : State} (h : s.Unhindered) (hp : s.seq.phase = .p1) :
    Records s (phaseStep^[6] s)
      ((if levelOfMode s.seq.mode ≠ s.pins.out .mode then
          [.pin (phaseStep^[1] s).now .mode .output (levelOfMode s.seq.mode)] else []) ++
        (if s.pins.out .e = .low then [.pin (phaseStep^[2] s).now .e .output .high] else []) ++
        (if s.seq.payload ≠ s.pins.busOut then [.bus (phaseStep^[3] s).now .output s.seq.payload] else []) ++
        [.delay (phaseStep^[3] s).now .setup Config.tSetup] ++
        [.pin (phaseStep^[5] s).now .e .output .low, .latch ((phaseStep^[5] s).latchRecord .exec)] ++
        [.delay (phaseStep^[5] s).now (postDelayOf s.seq.mode) (intervalOf (postDelayOf s.seq.mode))]) := by
  have h1 : (phaseStep^[1] s).Unhindered := h.phaseStep (by simp [hp])
  have h2 : (phaseStep^[2] s).Unhindered := h1.phaseStep (by simp [hp, Phase.next])
  have h3 : (phaseStep^[3] s).Unhindered := h2.phaseStep (by simp [hp, Phase.next])
  have h4 : (phaseStep^[4] s).Unhindered := h3.phaseStep (by simp [hp, Phase.next])
  have he : (phaseStep^[4] s).pins.pin .e = .high := by
    simp [phaseStep_pin_e, h.ready.e_output, hp, Phase.next, Phase.strobe]
  have r1 := phaseStep_records_p1 h hp
  have r2 := phaseStep_records_p2 h1 (by simp [hp, Phase.next])
  have r3 := phaseStep_records_p3 h2 (by simp [hp, Phase.next])
  have r4 := phaseStep_records_p4 (s := phaseStep^[3] s) (by simp [hp, Phase.next])
  have r5 := phaseStep_records_p5 h4 (by simp [hp, Phase.next]) he
  have r6 := phaseStep_records_p6 (s := phaseStep^[5] s) (by simp [hp, Phase.next])
  have he1 : (phaseStep^[1] s).pins.out .e = s.pins.out .e := by
    simp [phaseStep_pins h.ready, Sequencer.drive, hp, Pins.out_setOut_ne]
  have hb2 : (phaseStep^[2] s).pins.busOut = s.pins.busOut := by
    simp [phaseStep_pins, h.ready, Sequencer.drive, hp, Phase.next]
  have hb2' : (phaseStep^[2] s).seq.payload = s.seq.payload := by
    simp [phaseStep_payload, hp, Phase.next]
  rw [he1] at r2
  rw [hb2, hb2'] at r3
  rw [transaction_mode hp] at r6
  exact ((((r1.trans r2).trans r3).trans r4).trans r5).trans r6

/-- After a transaction the next one is free to start (41_transaction_sequencer.md R128). -/
theorem transaction_busFree {s : State} (h : s.Unhindered) (hp : s.seq.phase = .p1) : (phaseStep^[6] s).busFree :=
  ⟨(transaction_tFree h.ready hp).trans_le (transaction_now hp),
    (Function.Iterate.rec State.SetupHeld h.setup (fun _ => phaseStep_setupHeld) 6).tStable_le⟩

/-- Between the bus write of phase 3 and the falling edge of phase 5 lies the delay of phase 4. -/
theorem transaction_setup_time {s : State} (hp : s.seq.phase = .p1) :
    (phaseStep^[3] s).now + Config.tSetup ≤ (phaseStep^[5] s).now := by
  have hp4 : (phaseStep^[3] s).seq.phase = .p4 := by simp [hp, Phase.next]
  have h4 : (phaseStep^[3] s).now + Config.tSetup ≤ (phaseStep (phaseStep^[3] s)).now := by
    rw [phaseStep_of_p4 hp4]
    exact Nat.add_le_add_left (Nat.le_add_right _ _) _
  exact h4.trans (phaseStep_now_le (phaseStep^[4] s))

/-- An accepted `EXEC` under the conditions of 41_transaction_sequencer.md R135 and R136 is unhindered. -/
theorem beginExec_unhindered {s : State} (b : Byte) (m : Mode) (h : s.execReady) (hrw : s.pins.pin .rw = .low)
    (hfree : s.busFree) : (beginExec b m s).Unhindered :=
  ⟨h, hrw, hfree.1, hfree.2, nofun⟩

/-! ### The transaction with `MODE`, `E` and the bus inputs (95_test_vectors.md V41.4) -/

/-- From `s` to `t` nothing shows on any pin or on the bus and the arbiter is as it was; the faults `f` and the events
`new` are recorded. -/
structure Unseen (s t : State) (f : BitVec 6) (new : List Event) : Prop where
  pin : ∀ l, t.pins.pin l = s.pins.pin l
  pinBus : t.pins.pinBus = s.pins.pinBus
  arb : t.arb = s.arb
  fault : t.fault = s.fault ||| f
  trace : t.trace = s.trace ++ new

theorem Unseen.trans {s t u : State} {f f' : BitVec 6} {new new' : List Event} (h : Unseen s t f new)
    (k : Unseen t u f' new') : Unseen s u (f ||| f') (new ++ new') :=
  ⟨fun l => (k.pin l).trans (h.pin l), k.pinBus.trans h.pinBus, k.arb.trans h.arb,
    by rw [k.fault, h.fault, BitVec.or_assoc], by rw [k.trace, h.trace, List.append_assoc]⟩

theorem lineWrite_unseen {s : State} {l : Line} (v : Level) (o : Origin) (hw : l.wellFormed = true)
    (hd : s.pins.dir l = .input) :
    Unseen s (s.lineWrite l v o) Cause.notOutput.mask
      [.fault (s.lineWrite l v o).now .notOutput (.designator (designatorOfLine l))] := by
  rw [lineWrite_input s l v o hd]
  refine ⟨fun l' => ?_, rfl, rfl, rfl, rfl⟩
  by_cases hl : l' = l
  · exact hl ▸ s.pins.pin_setOut_input l' _ (hl ▸ hw) (hl ▸ hd)
  · exact s.pins.pin_setOut_ne l l' _ hl

theorem busWrite_unseen {s : State} (b : Byte) (o : Origin) (hd : s.pins.busDir = .input) :
    Unseen s (s.busWrite b o) Cause.notOutput.mask
      [.fault (s.busWrite b o).now .notOutput (.designator busDesignator)] := by
  rw [busWrite_input s b o hd]
  exact ⟨fun _ => rfl, s.pins.pinBus_setBusOut_input _ hd, rfl, rfl, rfl⟩

/-- A phase that is a `Step()`, a write that nothing shows of, and the count of the phase. -/
theorem Unseen.ofPhase {s t : State} {f : BitVec 6} {new : List Event} (h : Unseen s.stepTime t f new) (p : Phase) :
    Unseen s (t.toPhase p) f new :=
  ⟨h.pin, h.pinBus, h.arb, h.fault, h.trace⟩

section
variable {s : State}

theorem phaseStep_unseen_p1 (hd : s.pins.dir .mode = .input) (hp : s.seq.phase = .p1) :
    Unseen s (phaseStep s) Cause.notOutput.mask
      [.fault (phaseStep s).now .notOutput (.designator (designatorOfLine .mode))] := by
  rw [phaseStep_of_p1 hp]
  exact (lineWrite_unseen (s := s.stepTime) _ _ rfl hd).ofPhase _

theorem phaseStep_unseen_strobe (hd : s.pins.dir .e = .input) (hp : s.seq.phase = .p2 ∨ s.seq.phase = .p5) :
    Unseen s (phaseStep s) Cause.notOutput.mask
      [.fault (phaseStep s).now .notOutput (.designator (designatorOfLine .e))] := by
  rcases hp with hp | hp
  · rw [phaseStep_of_p2 hp]
    exact (lineWrite_unseen (s := s.stepTime) _ _ rfl hd).ofPhase _
  · rw [phaseStep_of_p5 hp]
    exact (lineWrite_unseen (s := s.stepTime) _ _ rfl hd).ofPhase _

theorem phaseStep_unseen_p3 (hd : s.pins.busDir = .input) (hp : s.seq.phase = .p3) :
    Unseen s (phaseStep s) Cause.notOutput.mask
      [.fault (phaseStep s).now .notOutput (.designator busDesignator)] := by
  rw [phaseStep_of_p3 hp]
  exact (busWrite_unseen (s := s.stepTime) _ _ hd).ofPhase _

theorem phaseStep_unseen_p4 (hp : s.seq.phase = .p4) :
    Unseen s (phaseStep s) 0#6 [.delay s.now .setup Config.tSetup] := by
  rw [phaseStep_of_p4 hp]
  exact ⟨fun _ => rfl, rfl, rfl, by simp, rfl⟩

theorem phaseStep_unseen_p6 (hp : s.seq.phase = .p6) :
    Unseen s (phaseStep s) 0#6 [.delay s.now (postDelayOf s.seq.mode) (intervalOf (postDelayOf s.seq.mode))] := by
  rw [phaseStep_of_p6 hp]
  exact ⟨fun _ => rfl, rfl, rfl, by simp, rfl⟩

/-- The transaction on inputs: `F_NOT_OUTPUT` in the four phases that write, the two delays, and nothing else
(95_test_vectors.md V41.4). -/
theorem transaction_unseen (hmode : s.pins.dir .mode = .input) (he : s.pins.dir .e = .input)
    (hbus : s.pins.busDir = .input) (hp : s.seq.phase = .p1) :
    Unseen s (phaseStep^[6] s) Cause.notOutput.mask
      [.fault (phaseStep^[1] s).now .notOutput (.designator (designatorOfLine .mode)),
       .fault (phaseStep^[2] s).now .notOutput (.designator (designatorOfLine .e)),
       .fault (phaseStep^[3] s).now .notOutput (.designator busDesignator),
       .delay (phaseStep^[3] s).now .setup Config.tSetup,
       .fault (phaseStep^[5] s).now .notOutput (.designator (designatorOfLine .e)),
       .delay (phaseStep^[5] s).now (postDelayOf s.seq.mode) (intervalOf (postDelayOf s.seq.mode))] := by
  have u1 := phaseStep_unseen_p1 hmode hp
  have u2 := phaseStep_unseen_strobe (s := phaseStep^[1] s) (by simp [he]) (by simp [hp, Phase.next])
  have u3 := phaseStep_unseen_p3 (s := phaseStep^[2] s) (by simp [hbus]) (by simp [hp, Phase.next])
  have u4 := phaseStep_unseen_p4 (s := phaseStep^[3] s) (by simp [hp, Phase.next])
  have u5 := phaseStep_unseen_strobe (s := phaseStep^[4] s) (by simp [he]) (by simp [hp, Phase.next])
  have u6 := phaseStep_unseen_p6 (s := phaseStep^[5] s) (by simp [hp, Phase.next])
  rw [transaction_mode hp] at u6
  exact ((((u1.trans u2).trans u3).trans u4).trans u5).trans u6

end

end Sys2Proof.Machine
end

section
/-! PROOFS. The statements on 41_transaction_sequencer.md: the latch events, the invariants of the arbiter, the port while the
block is busy, the transaction, the addressing function. -/

namespace Sys2Proof.Machine

/-- Settles O29: every action follows the rule of a falling edge, and of the six phases only the fifth lowers `E`. -/
theorem latchExactlyAtFallingEdges : Obligations.LatchExactlyAtFallingEdges := by
  refine ⟨fun s t h hr => ?_, fun b m s hd => ?_⟩
  · obtain ⟨ts, ha, hact⟩ := step_acts h hr
    obtain ⟨o, hedge⟩ := hact.latchesAtEdge
    obtain ⟨new, htrace, hnew⟩ := hedge.latches
    refine ⟨new, htrace, ?_⟩
    rw [List.countP_eq_length_filter, hnew, fallingEdge]
    by_cases hfall : s.pins.pin .e = .high ∧ t.pins.pin .e = .low <;> simp [hfall]
  · obtain ⟨new, htrace, hnew⟩ := transaction_latches (s := beginExec b m s) hd rfl
    refine ⟨beginExec b m s, 6, new, rfl, ?_⟩
    rw [sequencerStep_six rfl]
    exact ⟨by simp [Phase.next], htrace, by simp [List.countP_eq_length_filter, hnew]⟩

/-- Settles O56: phase 5 is reached from phase 4 only, whose delay is `T_SETUP`, and what comes between moves no pin. -/
theorem stepKeepsSetupHeld : Obligations.StepKeepsSetupHeld := fun _ _ hs h =>
  step_keeps State.SetupHeld (fun _ _ _ h => h) (fun _ => ⟨Nat.le_refl _, nofun⟩) Acts.setupHeld hs h

/-- Settles O58: an action latches its falling edge and sets `T_FREE` from it, or does neither. -/
theorem stepKeepsFreeFromLatch : Obligations.StepKeepsFreeFromLatch := fun _ _ hs h =>
  step_keeps State.FreeFromLatch (fun _ _ _ h => h) (fun _ => rfl) Acts.freeFromLatch hs h

/-- Settles O6: no operation of the sequencer is an `RDTICK`, and nothing else writes the host's side of the port. -/
theorem portHoldsTheHostWhileBusy : Obligations.PortHoldsTheHostWhileBusy := by
  intro s hb
  obtain ⟨hhost, hresponse, hturns⟩ := sequencerStep_portHeld s
  refine ⟨fun ht => ?_, fun ts ht => ?_, hhost, hresponse, hturns⟩
  · rw [step_of_turns_nil ht, mainStep_of_busy hb]
  · rw [step_of_turns_main ht, mainStep_of_busy (s := { s with turns := ts }) hb]

/-- Settles O24: the one latch event is of the pins that phase 5 leaves, which the phases before it have driven. -/
theorem execLatchesItsPayload : Obligations.ExecLatchesItsPayload := by
  intro b m s h
  have ha : (beginExec b m s).execReady := h
  have hd : (beginExec b m s).pins.dir .e = .output := h.e_output
  obtain ⟨new, htrace, hnew⟩ := transaction_latches hd rfl
  have hsetup (hst : s.arb.tStable ≤ s.now) : (phaseStep^[6] (beginExec b m s)).faulted .setup = s.faulted .setup :=
    transaction_faulted_setup 6 (s := beginExec b m s) hd ⟨hst, nofun⟩
  have hstrobe := transaction_faulted_readStrobe hd rfl
  rw [show (phaseStep^[5] (beginExec b m s)).pins.pin .rw = s.pins.pin .rw from
    congrArg LatchRecord.rw (transaction_latchRecord ha rfl)] at hstrobe
  rw [transaction_latchRecord ha rfl] at hnew
  refine ⟨beginExec b m s, _, 6, rfl, (sequencerStep_six rfl).symm, by simp [Phase.next], new, _, htrace, hnew,
    rfl, rfl, rfl, rfl, transaction_now rfl, transaction_tFree ha rfl, transaction_faulted_notOutput 6 ha, hsetup,
    ?_⟩
  rw [hstrobe, Bool.or_eq_true, decide_eq_true_eq]
  rfl

/-- Settles O23: no check fails in any phase, so the events are the six phases' own. -/
theorem execPerformsItsTransaction : Obligations.ExecPerformsItsTransaction := by
  intro b m s h hrw hfree
  have ha : (beginExec b m s).Unhindered := beginExec_unhindered b m h hrw hfree
  obtain ⟨htrace, hfault⟩ := transaction_records ha rfl
  have hpins := (transaction_pins_end rfl).trans (transaction_pins ha.ready rfl)
  refine ⟨beginExec b m s, _, rfl, (sequencerStep_six rfl).symm, by simp [Phase.next], hfault,
    transaction_busFree ha rfl, by simpa using ha.ready, ?_, ?_, ?_, by simp, fun l hl hl' => ?_, by simp, by simp,
    by simp, by simp, by simp, by simp, by simp, (phaseStep^[1] (beginExec b m s)).now,
    (phaseStep^[2] (beginExec b m s)).now,
    (phaseStep^[3] (beginExec b m s)).now, (phaseStep^[5] (beginExec b m s)).now,
    phaseStep_now_le (beginExec b m s), phaseStep_now_le _, phaseStep_now_le _, transaction_setup_time rfl,
    transaction_now rfl, transaction_tFree ha.ready rfl, ?_⟩
  · rw [hpins, Pins.pin_setOut_ne _ _ _ _ (by decide), Pins.pin_setBusOut, Pins.pin_setOut_ne _ _ _ _ (by decide)]
    exact Pins.pin_setOut_mode _ _ h.mode_output
  · rw [hpins, Pins.pinBus_setOut]
    exact Pins.pinBus_setBusOut_output _ _ h.bus_output
  · rw [hpins]
    exact Pins.pin_setOut_e _ _ (by simpa using h.e_output)
  · rw [hpins]
    simp [Pins.out_setOut_ne, hl, hl']
  · rw [htrace, transaction_latchRecord ha.ready rfl]
    simp [hrw]

/-- Settles O25: the word and the acceptance are those of `EXEC byte, Data`, and its six phases record no fault. -/
theorem wrbytePerformsADataTransaction : Obligations.WrbytePerformsADataTransaction := by
  refine ⟨by decide, fun b s => ⟨rfl, rfl, fun h hrw hfree => ?_⟩⟩
  have ha : (beginExec b .data s).Unhindered := beginExec_unhindered b .data h hrw hfree
  obtain ⟨new, htrace, hnew⟩ := transaction_latches ha.ready.e_output rfl
  rw [transaction_latchRecord ha.ready rfl] at hnew
  exact ⟨beginExec b .data s, _, 6, rfl, (sequencerStep_six rfl).symm, by simp [Phase.next],
    (transaction_records ha rfl).fault, transaction_busFree ha rfl, new, _, htrace, hnew, rfl, rfl, rfl⟩

/-- Settles O26: each write finds its line or the bus an input. -/
theorem execWithoutOutputsRunsAndFaults : Obligations.ExecWithoutOutputsRunsAndFaults := by
  intro b m s hmode he hbus
  obtain ⟨hpin, hpinBus, harb, hfault, htrace⟩ := transaction_unseen (s := beginExec b m s) hmode he hbus rfl
  exact ⟨beginExec b m s, _, rfl, (sequencerStep_six rfl).symm, by simp [Phase.next], hfault, harb, hpin, hpinBus,
    _, _, _, _, htrace⟩

/-- Settles O30: `T_STABLE` has not moved since phase 4 and `NOW` has not gone back. -/
theorem phaseFiveNeverBreaksSetup : Obligations.PhaseFiveNeverBreaksSetup := fun _ => phaseStep_faulted_setup_of_p5

/-- Settles O22: acceptance is one register write, and the two operations share it. -/
theorem execAndWrbyteAreAccepted : Obligations.ExecAndWrbyteAreAccepted := fun _ _ _ => ⟨rfl, rfl⟩

/-- Settles O28: `CSMAP` sends every chip to `CS[0]`, whose pin an input reads as `EXT`, high. -/
theorem addressedChips_spec : Obligations.AddressedChips := by
  refine ⟨Pins.mem_addressed, fun p hcs => ?_, fun n select c => ?_⟩
  · have hhigh : p.pin (.cs 0) = .high := p.pin_of_input _ hcs
    constructor <;> intro hmaster <;>
      simp [Pins.addressed, addressedChips, Config.csMap, Config.grounded, hmaster, hhigh]
  · simp [addressedChips, Config.grounded]

end Sys2Proof.Machine
end

section
/-! PROOFS. The pulse generator: its clock, what it holds at every clock up to the next wrap and in how many of those
intervals the output is high, and what each action leaves of its registers, for the statements on 42_pwm_contrast.md
below. -/

namespace Sys2Proof.Machine

/-! ### `PWMINIT` and one clock (42_pwm_contrast.md R151, R153) -/

@[simp] theorem configure_run (p : Pwm) : p.configure.run = true := rfl
@[simp] theorem configure_top (p : Pwm) : p.configure.top = Config.pwmTopValue := rfl

/-- The two high bits of the compare value are 0, so the match is of the numbers (R157). -/
theorem Pwm.cnt_eq_compare_iff (p : Pwm) : p.cnt = p.compare ↔ p.cnt.toNat = p.duty.toNat := by
  have hd : p.duty.toNat < 1024 := by omega
  simp [Pwm.compare, BitVec.toNat_eq, Nat.mod_eq_of_lt hd]

theorem Pwm.clock_of_stopped {p : Pwm} (h : p.run = false) : p.clock = p := by simp [Pwm.clock, h]

theorem Pwm.clock_of_top {p : Pwm} (h : p.run = true) (ht : p.cnt = p.top) :
    p.clock = { p with cnt := 0#10, out := .high } := by
  simp [Pwm.clock, h, ht]

theorem Pwm.clock_of_ne_top {p : Pwm} (h : p.run = true) (ht : p.cnt ≠ p.top) :
    p.clock =
      { p with
        out := if p.cnt.toNat = p.duty.toNat then .low else p.out
        cnt := BitVec.ofNat 10 (p.cnt.toNat + 1) } := by
  simp [Pwm.clock, h, ht, p.cnt_eq_compare_iff, BitVec.ofNat_add]

theorem step_of_turns_gen {s : State} {ts : List Turn} (h : s.turns = .gen :: ts) :
    step s = .next (genStep { s with turns := ts }) := by
  simp [step, turnStep, h]

/-! ### Many clocks -/

theorem Pwm.clocks_succ (n : Nat) (p : Pwm) : p.clocks (n + 1) = (p.clocks n).clock := by
  induction n generalizing p with
  | zero => rfl
  | succ n ih => exact ih p.clock

theorem Pwm.highIntervals_succ (n : Nat) (p : Pwm) :
    p.highIntervals (n + 1) = p.highIntervals n + if (p.clocks n).out = .high then 1 else 0 := by
  induction n generalizing p with
  | zero => exact Nat.add_comm _ _
  | succ n ih => rw [Pwm.highIntervals, ih p.clock, ← Nat.add_assoc]; rfl

/-- The generator at the count `c` with the output `v`: a clock writes these two registers only (R153). -/
def Pwm.atCount (p : Pwm) (c : Nat) (v : Level) : Pwm := { p with cnt := BitVec.ofNat 10 c, out := v }

@[simp] theorem Pwm.atCount_run (p : Pwm) (c : Nat) (v : Level) : (p.atCount c v).run = p.run := rfl
@[simp] theorem Pwm.atCount_top (p : Pwm) (c : Nat) (v : Level) : (p.atCount c v).top = p.top := rfl
@[simp] theorem Pwm.atCount_duty (p : Pwm) (c : Nat) (v : Level) : (p.atCount c v).duty = p.duty := rfl
@[simp] theorem Pwm.atCount_cnt (p : Pwm) (c : Nat) (v : Level) : (p.atCount c v).cnt = BitVec.ofNat 10 c := rfl
@[simp] theorem Pwm.atCount_out (p : Pwm) (c : Nat) (v : Level) : (p.atCount c v).out = v := rfl

theorem Pwm.atCount_cnt_toNat (p : Pwm) {c : Nat} (v : Level) (hc : c < 1024) : (p.atCount c v).cnt.toNat = c := by
  simpa using hc

theorem Pwm.clock_eq_atCount {p : Pwm} (h : p.run = true) : ∃ c v, p.clock = p.atCount c v := by
  by_cases ht : p.cnt = p.top
  · exact ⟨0, .high, Pwm.clock_of_top h ht⟩
  · exact ⟨_, _, Pwm.clock_of_ne_top h ht⟩

/-- The generator runs with the one fixed period of R151. -/
structure Pwm.Running (p : Pwm) : Prop where
  run : p.run = true
  top : p.top = Config.pwmTopValue

section
variable {p : Pwm} {c k n : Nat} {v : Level} (h : p.Running)
include h

theorem Pwm.Running.clock_atCount (hc : c < 1023) :
    (p.atCount c v).clock = p.atCount (c + 1) (if c = p.duty.toNat then .low else v) := by
  have hcnt : (p.atCount c v).cnt.toNat = c := p.atCount_cnt_toNat v (by omega)
  have hne : (p.atCount c v).cnt ≠ (p.atCount c v).top := by
    rw [Ne, BitVec.toNat_eq, hcnt, Pwm.atCount_top, h.top]
    exact hc.ne
  rw [Pwm.clock_of_ne_top (p := p.atCount c v) h.run hne, hcnt]
  rfl

theorem Pwm.Running.clock_atCount_top : (p.atCount 1023 v).clock = p.atCount 0 .high :=
  Pwm.clock_of_top h.run h.top.symm

/-- Up to the top the count goes up by one a clock, and the output falls on the match and on no other clock. -/
theorem Pwm.Running.clocks_atCount (hk : c + k < 1024) :
    (p.atCount c v).clocks k = p.atCount (c + k) (if c ≤ p.duty.toNat ∧ p.duty.toNat < c + k then .low else v) := by
  induction k with
  | zero =>
    rw [if_neg (by omega)]
    rfl
  | succ k ih =>
    rw [Pwm.clocks_succ, ih (by omega), h.clock_atCount (by omega), Nat.add_assoc]
    by_cases hm : c + k = p.duty.toNat
    · rw [if_pos hm, if_pos (by omega)]
    · have hsame : (c ≤ p.duty.toNat ∧ p.duty.toNat < c + k) ↔
          c ≤ p.duty.toNat ∧ p.duty.toNat < c + (k + 1) := by omega
      simp only [if_neg hm, hsame]

/-- The period ends by the wrap, whatever the output was in it. -/
theorem Pwm.Running.clocks_atCount_wrap (hk : c + k = 1024) (hc : c < 1024) :
    (p.atCount c v).clocks k = p.atCount 0 .high := by
  obtain ⟨k, rfl⟩ : ∃ m, k = m + 1 := ⟨k - 1, by omega⟩
  rw [Pwm.clocks_succ, h.clocks_atCount (by omega), show c + k = 1023 by omega, h.clock_atCount_top]

/-- The output at the start is low: it is low to the wrap. -/
theorem Pwm.Running.highIntervals_atCount_low (hn : c + n ≤ 1024) : (p.atCount c .low).highIntervals n = 0 := by
  induction n with
  | zero => rfl
  | succ n ih => simp [Pwm.highIntervals_succ, ih (by omega), h.clocks_atCount (show c + n < 1024 by omega)]

/-- The output is high and the match is behind: it is high to the wrap. -/
theorem Pwm.Running.highIntervals_atCount_passed (hc : p.duty.toNat < c) (hn : c + n ≤ 1024) :
    (p.atCount c .high).highIntervals n = n := by
  have hpassed : ¬c ≤ p.duty.toNat := by omega
  induction n with
  | zero => rfl
  | succ n ih => simp [Pwm.highIntervals_succ, ih (by omega), h.clocks_atCount (show c + n < 1024 by omega), hpassed]

/-- The output is high and the match is to come: it is high up to the match. -/
theorem Pwm.Running.highIntervals_atCount_match (hc : c ≤ p.duty.toNat) (hn : c + n ≤ 1024) :
    (p.atCount c .high).highIntervals n = min n (p.duty.toNat + 1 - c) := by
  induction n with
  | zero => exact (Nat.zero_min _).symm
  | succ n ih =>
    rw [Pwm.highIntervals_succ, ih (by omega), h.clocks_atCount (by omega)]
    by_cases hmatched : c ≤ p.duty.toNat ∧ p.duty.toNat < c + n
    · rw [if_pos hmatched, Pwm.atCount_out, if_neg (by decide)]
      omega
    · rw [if_neg hmatched, Pwm.atCount_out, if_pos rfl]
      omega

end

/-- A running generator whose output a wrap has just set: a period that begins in steady state (R154). -/
structure Pwm.Wrapped (p : Pwm) : Prop extends p.Running where
  cnt : p.cnt = 0#10
  out : p.out = .high

theorem Pwm.Running.atCount_wrapped {p : Pwm} (h : p.Running) : (p.atCount 0 .high).Wrapped :=
  ⟨⟨h.run, h.top⟩, rfl, rfl⟩

section
variable {p : Pwm} {k n : Nat} (h : p.Wrapped)
include h

theorem Pwm.Wrapped.atCount_zero_high : p.atCount 0 .high = p := by rw [Pwm.atCount, ← h.cnt, ← h.out]

theorem Pwm.Wrapped.clocks_within (hk : k < 1024) :
    p.clocks k = p.atCount k (if p.duty.toNat < k then .low else .high) := by
  have hclocks := h.clocks_atCount (c := 0) (v := .high) (k := k) (by omega)
  rw [h.atCount_zero_high] at hclocks
  simpa using hclocks

theorem Pwm.Wrapped.clocks_period : p.clocks 1024 = p := by
  have hclocks := h.clocks_atCount_wrap (c := 0) (v := .high) (Nat.zero_add _) (by decide)
  rwa [h.atCount_zero_high] at hclocks

theorem Pwm.Wrapped.highIntervals (hn : n ≤ 1024) : p.highIntervals n = min n (p.duty.toNat + 1) := by
  have hmatch := h.highIntervals_atCount_match (c := 0) (n := n) (Nat.zero_le _) (by omega)
  rwa [h.atCount_zero_high] at hmatch

/-- In steady state `H` is `DUTY + 1` (R154). -/
theorem Pwm.Wrapped.highIntervals_period : p.highIntervals 1024 = p.duty.toNat + 1 := by
  rw [h.highIntervals (Nat.le_refl _)]
  omega

end

/-! ### What each action leaves of the generator -/

/-- What one action can do to the generator's registers: nothing, `GenStep`, `PWMINIT` or a write of `DUTY`. -/
inductive Pwm.Moves (p : Pwm) : Pwm → Prop where
  | stays : p.Moves p
  | clock : p.Moves p.clock
  | configure : p.Moves p.configure
  | duty (v : Byte) : p.Moves { p with duty := v }

theorem Pwm.Moves.of_eq {p q : Pwm} (h : q = p) : p.Moves q := h ▸ .stays

theorem perform_pwm (o : Origin) (i : Instr) (s : State) : s.pwm.Moves (perform o i s).pwm := by
  cases i with
  | setc v => exact .duty v
  | pwminit => exact .configure
  | _ => exact .of_eq (by simp [perform])

theorem exec_pwm {i : Instr} {s t : State} (hi : i.wellFormed = true) (he : exec i s = .next t) :
    s.pwm.Moves t.pwm := by
  by_cases hn : i = .init
  · subst hn
    simp only [exec, execInit] at he
    split at he <;> cases he <;> exact .stays
  · rw [exec_eq_perform i s hi hn] at he
    cases he
    exact perform_pwm _ _ _

theorem Acts.pwm {s t : State} (h : Acts s t) : s.pwm.Moves t.pwm := by
  cases h with
  | operation i t _ hi he => exact exec_pwm hi he
  | initOp i _ _ _ _ => exact perform_pwm .init i { s with ini := { s.ini with op := s.ini.op + 1 } }
  | generator => exact .clock
  | _ => exact .of_eq (by simp)

/-- No move leaves the one period of R151, and a stopped generator takes no clock. -/
theorem Pwm.Configured.moves {p q : Pwm} (h : p.Configured) (hm : p.Moves q) : q.Configured := by
  cases hm with
  | stays => exact h
  | configure => exact .inl ⟨configure_run p, configure_top p⟩
  | clock =>
    rcases h with ⟨hrun, htop⟩ | hreset
    · obtain ⟨c, v, hclock⟩ := Pwm.clock_eq_atCount hrun
      exact .inl (hclock ▸ ⟨hrun, htop⟩)
    · have hstop : p.run = false := by rw [hreset]; rfl
      rw [Pwm.clock_of_stopped hstop]
      exact .inr hreset
  | duty v =>
    rcases h with hrunning | hreset
    · exact .inl hrunning
    · exact .inr (by rw [hreset])

end Sys2Proof.Machine
end

section
/-! PROOFS. The statements on 42_pwm_contrast.md: the generator's two operations, its clock, the waveform of a period,
the contrast value, the arithmetic of the contrast level. -/

namespace Sys2Proof.Machine

/-- Settles O36: up to the wrap the count is the number of clocks, and the output falls on the match alone. -/
theorem steadyPeriodWaveform : Obligations.SteadyPeriodWaveform := by
  intro p hrun htop hcnt hout
  have h : p.Wrapped := ⟨⟨hrun, htop⟩, hcnt, hout⟩
  refine ⟨fun k hk => ?_, h.highIntervals_period, h.clocks_period⟩
  rw [h.clocks_within hk]
  exact ⟨p.atCount_cnt_toNat _ hk, by simp⟩

/-- Settles O37: `H` is `DUTY + 1` at every `DUTY`. -/
theorem contrastValueOfAPeriod : Obligations.ContrastValueOfAPeriod := by
  have hvoltage (n : Nat) : contrastVoltage n = Config.vHigh * n / 1024 := rfl
  refine ⟨hvoltage, fun p hrun htop hcnt hout => ?_⟩
  have hperiod (d : Byte) : Pwm.highIntervals 1024 { p with duty := d } = d.toNat + 1 :=
    Pwm.Wrapped.highIntervals_period ⟨⟨hrun, htop⟩, hcnt, hout⟩
  have hp : p.highIntervals 1024 = p.duty.toNat + 1 := hperiod p.duty
  have hvalue : p.vContrast = Config.vHigh * (p.duty.toNat + 1 : Nat) / 1024 := by
    rw [← hvoltage, ← hp]
    rfl
  have hbyte : p.duty.toNat < 256 := p.duty.isLt
  refine ⟨hvalue, hp, fun hd => by rw [hp, hd]; rfl, fun hd => by rw [hp, hd]; rfl, by omega, by omega,
    fun d => ⟨fun hlt => ?_, fun hstep => ?_⟩⟩
  · rw [hp, hperiod]
    omega
  · rw [hp, hperiod, hstep]
    rfl

/-- Settles O38: the `c` intervals before the `SETC` are of the period at `d1`, and the rest run to the wrap at `d2`
from the output they find. -/
theorem midPeriodSetc : Obligations.MidPeriodSetc := by
  intro p c d hrun htop hcnt hout hc q n
  have h : p.Wrapped := ⟨⟨hrun, htop⟩, hcnt, hout⟩
  have h2 : Pwm.Running { p with duty := d } := ⟨hrun, htop⟩
  have hq : q = Pwm.atCount { p with duty := d } c (if p.duty.toNat < c then .low else .high) := by
    simp only [q, h.clocks_within hc]
    rfl
  have hend : q.clocks (1024 - c) = Pwm.atCount { p with duty := d } 0 .high := by
    rw [hq]
    exact h2.clocks_atCount_wrap (by omega) hc
  have hn : n = min c (p.duty.toNat + 1) + q.highIntervals (1024 - c) := congrArg (· + _) (h.highIntervals hc.le)
  have hlow : q.out = .low ↔ p.duty.toNat < c := by simp [hq]
  have hhigh : q.out = .high ↔ ¬p.duty.toNat < c := by simp [hq]
  rw [hlow, hhigh, hend]
  refine ⟨?_, Iff.rfl, fun hd => ?_, fun hd hcd => ?_, fun hd hcd => ?_, h2.atCount_wrapped.highIntervals_period,
    h2.atCount_wrapped.clocks_period⟩
  · rw [hq]
    exact Pwm.atCount_cnt_toNat _ _ hc
  · rw [hn, hq, if_pos hd, h2.highIntervals_atCount_low (by omega)]
    omega
  · rw [hn, hq, if_neg hd, h2.highIntervals_atCount_match hcd (by omega)]
    simp only
    omega
  · rw [hn, hq, if_neg hd, h2.highIntervals_atCount_passed hcd (by omega)]
    omega

/-- Settles O39: the match finds the output low already, and only the wrap sets it. -/
theorem firstPeriodIsLow : Obligations.FirstPeriodIsLow := by
  intro s t ht
  cases ht
  have h : s.pwm.configure.Running := ⟨configure_run _, configure_top _⟩
  have hlow (k : Nat) (hk : k < 1024) : s.pwm.configure.clocks k = s.pwm.configure.atCount k .low := by
    have hclocks := h.clocks_atCount (c := 0) (v := .low) (k := k) (by omega)
    rwa [ite_self, Nat.zero_add] at hclocks
  have hwrap : s.pwm.configure.clocks 1024 = s.pwm.configure.atCount 0 .high :=
    h.clocks_atCount_wrap (c := 0) (v := .low) (Nat.zero_add _) (by decide)
  rw [pwminitBody_pwm, hwrap, hlow 1023 (by decide)]
  exact ⟨rfl, fun k hk => by rw [hlow k hk, Pwm.atCount_out], rfl, rfl, rfl, rfl, h.atCount_wrapped.clocks_period⟩

/-- Settles O48: each increment is 8 modulo 256. -/
theorem contrastLevelAfterIncrements : Obligations.ContrastLevelAfterIncrements := by
  intro n
  induction n with
  | zero => exact fun c => (Nat.mod_eq_of_lt c.isLt).symm
  | succ n ih =>
    intro c
    have hnext : (nextContrast c).toNat = (c.toNat + 8) % 256 := BitVec.toNat_add c _
    rw [contrastAfter, ih, hnext]
    omega

/-- Settles O59: `PWMINIT` is the one way out of the stopped state, and it sets the one period. -/
theorem stepKeepsGeneratorConfigured : Obligations.StepKeepsGeneratorConfigured := fun _ _ hs h =>
  step_keeps (fun s => s.pwm.Configured) (fun _ _ _ h => h) (fun _ => .inr rfl) (fun hact hs => hs.moves hact.pwm) hs h

/-- Settles O33: `Pwm.configure` writes every register but `DUTY`. -/
theorem pwminitResult : Obligations.PwminitResult := by
  refine fun s => ⟨rfl, fun t ht => ?_⟩
  cases ht
  exact configure_run s.pwm

/-- Settles O34: the body writes `DUTY` and the trace after its `Step()`. -/
theorem setcResult : Obligations.SetcResult := fun _ _ => rfl

/-- Settles O35, by the three branches of the clock. -/
theorem generatorStepResult : Obligations.GeneratorStepResult := by
  intro s ts hts
  rw [step_of_turns_gen hts, genStep]
  cases hrun : s.pwm.run with
  | false => simp [Pwm.clock_of_stopped hrun]
  | true =>
    by_cases htop : s.pwm.cnt = s.pwm.top
    · simp [Pwm.clock_of_top hrun htop, htop]
    · simp [Pwm.clock_of_ne_top hrun htop, htop]

end Sys2Proof.Machine
end

section
/-! PROOFS. What the turns of the sequencer make of `INIT`: one lemma per kind of operation in its list and one for the end
of a step, then the stretches between them, for the statements on 43_init_sequencer.md below. -/

namespace Sys2Proof.Machine

/-! ### The turns of the sequencer (00_scope.md R7) -/

theorem sequencerStep_of_wait {s : State} (hp : s.seq.phase = .idle) (hw : s.waitActive = true) :
    sequencerStep s = endWait s := by
  simp [sequencerStep, hp, hw]

theorem sequencerStep_of_running {s : State} (hp : s.seq.phase = .idle) (hw : s.waitActive = false)
    (hr : s.ini.status = .running) : sequencerStep s = initStep s := by
  simp [sequencerStep, hp, hw, hr]

theorem initStep_recordGrows {s : State} (hp : s.seq.phase = .idle) (hw : s.waitActive = false)
    (hr : s.ini.status = .running) : RecordGrows s (initStep s) := by
  unfold initStep
  split
  · next i hi => exact (Acts.initOp i hp hw hr (List.mem_of_getElem? hi)).recordGrows
  · exact .endInitStep hr

theorem sequencerStep_recordGrows (s : State) : RecordGrows s (sequencerStep s) := by
  by_cases hp : s.seq.phase = .idle
  · cases hw : s.waitActive with
    | true => exact sequencerStep_of_wait hp hw ▸ (Acts.waitEnds hp hw).recordGrows
    | false =>
      by_cases hr : s.ini.status = .running
      · exact sequencerStep_of_running hp hw hr ▸ initStep_recordGrows hp hw hr
      · have hrest : sequencerStep s = s := by simp [sequencerStep, hp, hw, hr]
        exact hrest.symm ▸ .refl s
  · exact sequencerStep_of_phase_ne_idle hp ▸ (Acts.phase hp).recordGrows

/-- Some turns of the sequencer take `s` to `t` and record exactly the events `new`, and no fault. -/
structure Advances (s t : State) (new : List Event) : Prop extends Records s t new where
  turns : ∃ n, t = sequencerStep^[n] s

theorem Advances.trans {s t u : State} {new new' : List Event} (h : Advances s t new) (k : Advances t u new') :
    Advances s u (new ++ new') := by
  obtain ⟨m, hm⟩ := h.turns
  obtain ⟨n, hn⟩ := k.turns
  exact ⟨h.toRecords.trans k.toRecords, n + m, by rw [hn, hm, Function.iterate_add_apply]⟩

theorem Advances.now_le {s t : State} {new : List Event} (h : Advances s t new) : s.now ≤ t.now := by
  obtain ⟨n, hn⟩ := h.turns
  have hgrows (m : Nat) : RecordGrows s (sequencerStep^[m] s) := by
    induction m with
    | zero => exact .refl s
    | succ m ih => exact Function.iterate_succ_apply' sequencerStep m s ▸ ih.trans (sequencerStep_recordGrows _)
  exact hn ▸ (hgrows n).now

/-! ### Where `INIT` is, and the lines as it has driven them (43_init_sequencer.md R181) -/

/-- The pin registers after an operation whose writes all take effect (40_pin_bus.md R100 to R102,
41_transaction_sequencer.md R122). -/
def Pins.after (p : Pins) (i : Instr) : Pins :=
  match i.core with
  | .cfgdir t d => p.setTargetDir t d
  | .wrline l v => p.setOut l v
  | .wrbus b => p.setBusOut b
  | .exec b m => (((p.setOut .mode (levelOfMode m)).setOut .e .high).setBusOut b).setOut .e .low
  | _ => p

/-- The operation is a pin operation on an output, or sets a direction: it writes the registers it names. -/
def Pins.writable (p : Pins) (i : Instr) : Bool :=
  match i with
  | .cfgdir _ _ => true
  | .wrline l _ => decide (p.dir l = .output)
  | .wrbus _ => decide (p.busDir = .output)
  | _ => false

/-- The place of `INIT` in its list, with the pin registers it has left behind it. -/
structure InitPlace where
  ini : InitSeq
  pins : Pins

/-- The operation that comes next; none at the end of a step. -/
def InitPlace.move (v : InitPlace) : Option Instr := (initOps v.ini.step)[v.ini.op]?

/-- The place after the next operation or the end of the step. -/
def InitPlace.next (v : InitPlace) : InitPlace :=
  match v.move with
  | some i => { ini := { v.ini with op := v.ini.op + 1 }, pins := v.pins.after i }
  | none =>
    { v with ini := if v.ini.step = 10 then { status := .ready, step := 0, op := 0 }
        else { v.ini with step := v.ini.step + 1, op := 0 } }

theorem InitPlace.next_of_some {v : InitPlace} {i : Instr} (h : v.move = some i) :
    v.next = { ini := { v.ini with op := v.ini.op + 1 }, pins := v.pins.after i } := by
  simp [InitPlace.next, h]

theorem InitPlace.next_of_none {v : InitPlace} (h : v.move = none) :
    v.next = { v with ini := if v.ini.step = 10 then { status := .ready, step := 0, op := 0 }
      else { v.ini with step := v.ini.step + 1, op := 0 } } := by
  simp [InitPlace.next, h]

/-- The machine is at the place `v` with the generator `p`: nothing is in flight, and no transaction's timing is
pending. -/
structure State.InitAt (s : State) (v : InitPlace) (p : Pwm) : Prop where
  ini : s.ini = v.ini
  pins : s.pins = v.pins
  pwm : s.pwm = p
  idle : s.seq.phase = .idle
  noWait : s.waitActive = false
  free : s.busFree

/-! ### A pin operation that lowers no `E` (40_pin_bus.md R103) -/

theorem perform_of_writable {i : Instr} {s : State} (o : Origin) (h : s.pins.writable i = true) :
    perform o i s = s.stepTime.changePins (s.pins.after i) o := by
  cases i with
  | cfgdir t d => rfl
  | wrline l v => exact lineWrite_output s.stepTime l v o (of_decide_eq_true h)
  | wrbus b => exact busWrite_output s.stepTime b o (of_decide_eq_true h)
  | _ => exact Bool.noConfusion h

section
variable {s : State} {q : Pins} (o : Origin) (hfree : s.busFree) (hedge : fallingEdge s.pins q = false)
include hfree hedge

theorem changePins_records :
    Records s (s.changePins q o) (pinEvents s.pins q s.now ++ busEvents s.pins q s.now) := by
  have hlate : ¬s.now < s.arb.tFree := Nat.not_lt.2 hfree.1
  constructor <;> simp [State.changePins, commit_trace, commit_fault, hedge, State.rateViolated, hlate]

theorem changePins_busFree : (s.changePins q o).busFree := by
  obtain ⟨hfree, hstable⟩ := hfree
  have htFree : (s.changePins q o).arb.tFree = s.arb.tFree := by simp [State.changePins, commit_arb, hedge]
  rw [State.busFree, htFree, changePins_now]
  exact ⟨hfree, changePins_tStable_le hstable q o⟩

end

theorem State.busFree.stepTime {s : State} (h : s.busFree) : s.stepTime.busFree :=
  ⟨Nat.le_add_right_of_le h.1, Nat.le_add_right_of_le h.2⟩

/-! ### One operation of `INIT`, and the end of a step (43_init_sequencer.md R180, R181) -/

/-- The operation about to be performed is counted (notes/assumptions/8.md). -/
def State.countOp (s : State) : State := { s with ini := { s.ini with op := s.ini.op + 1 } }

section
variable {s : State} {v : InitPlace} {p : Pwm} {i : Instr} (h : s.InitAt v p)
include h

theorem State.InitAt.countOp : s.countOp.InitAt { v with ini := { v.ini with op := v.ini.op + 1 } } p :=
  ⟨congrArg (fun q : InitSeq => { q with op := q.op + 1 }) h.ini, h.pins, h.pwm, h.idle, h.noWait, h.free⟩

/-- A pin operation that takes effect and lowers no `E`. -/
theorem State.InitAt.perform_pinOp (hw : v.pins.writable i = true)
    (hedge : fallingEdge v.pins (v.pins.after i) = false) :
    Records s (perform .init i s) (pinEvents v.pins (v.pins.after i) (perform .init i s).now ++
      busEvents v.pins (v.pins.after i) (perform .init i s).now) ∧
    (perform .init i s).InitAt { v with pins := v.pins.after i } p := by
  obtain ⟨hini, hpins, hpwm, hidle, hwait, hfree⟩ := h
  rw [← hpins] at hw hedge ⊢
  have hrec := changePins_records (s := s.stepTime) .init hfree.stepTime hedge
  have hkeep := changePins_busFree (s := s.stepTime) .init hfree.stepTime hedge
  rw [perform_of_writable .init hw, changePins_now]
  exact ⟨⟨hrec.trace, hrec.fault⟩, by simpa, by simp, by simpa, by simpa, by simpa, hkeep⟩

theorem State.InitAt.perform_pwminit :
    Records s (perform .init .pwminit s) [] ∧ (perform .init .pwminit s).InitAt v p.configure :=
  ⟨⟨(List.append_nil _).symm, rfl⟩, h.ini, h.pins, congrArg Pwm.configure h.pwm, h.idle, h.noWait, h.free.stepTime⟩

theorem State.InitAt.perform_setc (b : Byte) :
    Records s (perform .init (.setc b) s) [.dutyWrite (perform .init (.setc b) s).now b] ∧
    (perform .init (.setc b) s).InitAt v { p with duty := b } :=
  ⟨⟨rfl, rfl⟩, h.ini, h.pins, congrArg (fun q : Pwm => { q with duty := b }) h.pwm, h.idle, h.noWait, h.free.stepTime⟩

/-- A `WAIT` up to its end (43_init_sequencer.md R182). -/
theorem State.InitAt.endWait_perform (k : DelayKind) :
    Records s (endWait (perform .init (.wait k) s)) [.delay s.now k (intervalOf k)] ∧
    (endWait (perform .init (.wait k) s)).InitAt v p ∧
    s.now + intervalOf k ≤ (endWait (perform .init (.wait k) s)).now := by
  have hnow : s.now + intervalOf k ≤ (endWait (perform .init (.wait k) s)).now :=
    Nat.add_le_add_left (Nat.le_add_right _ _) _
  have hle := (Nat.le_add_right _ _).trans hnow
  exact ⟨⟨rfl, rfl⟩, ⟨h.ini, h.pins, h.pwm, h.idle, rfl, h.free.1.trans hle, h.free.2.trans hle⟩, hnow⟩

end

section
variable {s : State} {v : InitPlace} {p : Pwm} (h : s.InitAt v p) (hr : v.ini.status = .running)
include h hr

theorem State.InitAt.sequencerStep_op {i : Instr} (hi : v.move = some i) :
    sequencerStep s = perform .init i s.countOp := by
  have hop : (initOps s.ini.step)[s.ini.op]? = some i := h.ini ▸ hi
  simp only [sequencerStep_of_running h.idle h.noWait (h.ini ▸ hr), initStep, hop, State.countOp]

theorem State.InitAt.sequencerStep_end (hi : v.move = none) : sequencerStep s = endInitStep s := by
  have hop : (initOps s.ini.step)[s.ini.op]? = none := h.ini ▸ hi
  simp only [sequencerStep_of_running h.idle h.noWait (h.ini ▸ hr), initStep, hop]

/-- The end of a step takes no time; the last is recorded (43_init_sequencer.md R180). -/
theorem State.InitAt.stepEnd (hi : v.move = none) :
    Advances s (sequencerStep s) (if v.ini.step = 10 then [.initDone s.now] else []) ∧
    (sequencerStep s).InitAt v.next p ∧ (sequencerStep s).now = s.now ∧ (sequencerStep s).arb = s.arb := by
  have hstep : sequencerStep s = endInitStep s := h.sequencerStep_end hr hi
  refine ⟨⟨⟨?_, by simp [hstep]⟩, 1, rfl⟩, ?_, by simp [hstep], by simp [hstep]⟩
  · rw [hstep, endInitStep, ← h.ini]
    split <;> simp
  · rw [hstep, InitPlace.next_of_none hi]
    exact ⟨by simp [h.ini], by simpa using h.pins, by simpa using h.pwm, by simpa using h.idle,
      by simpa using h.noWait, by simpa [State.busFree] using h.free⟩

/-- An operation that is over when it has been performed takes one turn. -/
theorem State.InitAt.turn {i : Instr} {new : List Event} {p' : Pwm} (hi : v.move = some i)
    (hdone : Records s.countOp (perform .init i s.countOp) new ∧ (perform .init i s.countOp).InitAt
      { ini := { v.ini with op := v.ini.op + 1 }, pins := v.pins.after i } p') :
    Advances s (sequencerStep s) new ∧ (sequencerStep s).InitAt v.next p' := by
  obtain ⟨hrec, hat⟩ := hdone
  rw [← h.sequencerStep_op hr hi] at hrec hat
  rw [InitPlace.next_of_some hi]
  exact ⟨⟨⟨hrec.trace, hrec.fault⟩, 1, rfl⟩, hat⟩

theorem State.InitAt.turn_pinOp {i : Instr} (hi : v.move = some i) (hw : v.pins.writable i = true)
    (hedge : fallingEdge v.pins (v.pins.after i) = false) :
    Advances s (sequencerStep s) (pinEvents v.pins (v.pins.after i) (sequencerStep s).now ++
      busEvents v.pins (v.pins.after i) (sequencerStep s).now) ∧ (sequencerStep s).InitAt v.next p := by
  have hturn := h.turn hr hi (h.countOp.perform_pinOp hw hedge)
  rwa [← h.sequencerStep_op hr hi] at hturn

theorem State.InitAt.turn_setc {b : Byte} (hi : v.move = some (.setc b)) :
    Advances s (sequencerStep s) [.dutyWrite (sequencerStep s).now b] ∧
    (sequencerStep s).InitAt v.next { p with duty := b } := by
  have hturn := h.turn hr hi (h.countOp.perform_setc b)
  rwa [← h.sequencerStep_op hr hi] at hturn

/-- A `WAIT` takes two turns (notes/assumptions/7.md). -/
theorem State.InitAt.turns_wait {k : DelayKind} (hi : v.move = some (.wait k)) :
    ∃ t, Advances s t [.delay s.now k (intervalOf k)] ∧ t.InitAt v.next p ∧ s.now + intervalOf k ≤ t.now := by
  obtain ⟨hrec, hat, hnow⟩ := h.countOp.endWait_perform k
  have hend : sequencerStep^[2] s = endWait (perform .init (.wait k) s.countOp) := by
    rw [Function.iterate_succ_apply, h.sequencerStep_op hr hi]
    exact sequencerStep_of_wait h.idle rfl
  rw [InitPlace.next_of_some hi]
  exact ⟨_, ⟨⟨hrec.trace, hrec.fault⟩, 2, hend.symm⟩, hat, hnow⟩

/-- An `EXEC` takes seven turns, its acceptance and the six phases (notes/assumptions/6.md). -/
theorem State.InitAt.turns_exec {b : Byte} {m : Mode} (hi : v.move = some (.exec b m)) (hready : s.execReady)
    (hrw : s.pins.pin .rw = .low) :
    ∃ (t : State) (new : List Event) (r : LatchRecord), Advances s t new ∧ t.InitAt v.next p ∧
      new.filter Event.isLatch = [.latch r] ∧
      r = { time := r.time, mode := m, byte := b, rw := .low, reset := v.pins.pin .reset,
            master := v.pins.pin .masterEn, addressed := v.pins.addressed, origin := .exec } ∧
      s.now + Config.tSetup ≤ r.time ∧ r.time + intervalOf (postDelayOf m) ≤ t.now ∧
      t.arb.tFree = r.time + intervalOf (postDelayOf m) := by
  have ha : (beginExec b m s.countOp).Unhindered := beginExec_unhindered (s := s.countOp) b m hready hrw h.free
  have hturns : sequencerStep^[7] s = phaseStep^[6] (beginExec b m s.countOp) := by
    rw [Function.iterate_succ_apply, h.sequencerStep_op hr hi]
    exact sequencerStep_six rfl
  obtain ⟨new, htrace, hnew⟩ := transaction_latches ha.ready.e_output rfl
  have hpins := (transaction_pins_end rfl).trans (transaction_pins ha.ready rfl)
  have hsetup : s.now + Config.tSetup ≤ (phaseStep^[5] (beginExec b m s.countOp)).now := by
    have hstart : s.now ≤ (phaseStep^[3] (beginExec b m s.countOp)).now :=
      ((phaseStep_now_le (beginExec b m s.countOp)).trans (phaseStep_now_le _)).trans (phaseStep_now_le _)
    exact (Nat.add_le_add_right hstart _).trans (transaction_setup_time (s := beginExec b m s.countOp) rfl)
  refine ⟨_, new, _, ⟨⟨htrace, (transaction_records ha rfl).fault⟩, 7, hturns.symm⟩, ?_, hnew, ?_, hsetup,
    transaction_now rfl, transaction_tFree ha.ready rfl⟩
  · have hc := h.countOp
    rw [InitPlace.next_of_some hi]
    exact ⟨by simpa using hc.ini, by rw [hpins]; exact hc.pins ▸ rfl, by simpa using hc.pwm, by simp [Phase.next],
      by simpa using hc.noWait, transaction_busFree ha rfl⟩
  · rw [← h.pins, ← hrw]
    exact transaction_latchRecord ha.ready rfl

end

/-! ### A stretch of pin operations that raise no `RESET` and latch nothing (70_reset_and_hazards.md R259) -/

/-- The event is no latch event and does not show `RESET` high. -/
def Event.Quiet (e : Event) : Prop := e.isLatch = false ∧ ∀ t d, e ≠ .pin t .reset d .high

theorem filter_isLatch_of_quiet {es : List Event} (h : ∀ e ∈ es, e.Quiet) : es.filter Event.isLatch = [] :=
  List.filter_eq_nil_iff.2 fun e he => by simp [(h e he).1]

/-- From `p` to `q` `E` does not fall, and the `RESET` line stays as it is if it is high in `q`. -/
def Pins.quiet (p q : Pins) : Bool :=
  !fallingEdge p q && decide (q.pin .reset = .high → q.dir .reset = p.dir .reset ∧ q.pin .reset = p.pin .reset)

theorem Pins.quiet_iff (p q : Pins) : p.quiet q = true ↔ fallingEdge p q = false ∧
    (q.pin .reset = .high → q.dir .reset = p.dir .reset ∧ q.pin .reset = p.pin .reset) := by
  rw [Pins.quiet, Bool.and_eq_true, Bool.not_eq_true', decide_eq_true_eq]

theorem pinEvents_quiet {p q : Pins} (h : p.quiet q = true) (n : Nat) :
    ∀ e ∈ pinEvents p q n ++ busEvents p q n, e.Quiet := by
  obtain ⟨-, hreset⟩ := (p.quiet_iff q).1 h
  intro e he
  rcases List.mem_append.1 he with he | he
  · refine ⟨?_, fun t d hpin => ?_⟩
    · simp only [pinEvents, List.mem_map] at he
      obtain ⟨l, -, rfl⟩ := he
      rfl
    · subst hpin
      obtain ⟨-, -, -, hhigh, hmoved⟩ := (pin_mem_pinEvents _ _ _ _ _ _ _).1 he
      exact hmoved (hreset hhigh.symm)
  · unfold busEvents at he
    split at he
    · exact absurd he List.not_mem_nil
    · rw [List.mem_singleton.1 he]
      exact ⟨rfl, nofun⟩

/-- What comes next is a quiet pin operation that takes effect, or the end of a step before the last. -/
def InitPlace.quiet (v : InitPlace) : Bool :=
  decide (v.ini.status = .running) &&
    match v.move with
    | some i => v.pins.writable i && v.pins.quiet (v.pins.after i)
    | none => decide (v.ini.step ≠ 10)

theorem State.InitAt.turn_quiet {s : State} {v : InitPlace} {p : Pwm} (h : s.InitAt v p) (hq : v.quiet = true) :
    ∃ new, Advances s (sequencerStep s) new ∧ (sequencerStep s).InitAt v.next p ∧ ∀ e ∈ new, e.Quiet := by
  simp only [InitPlace.quiet, Bool.and_eq_true, decide_eq_true_eq] at hq
  obtain ⟨hr, hq⟩ := hq
  cases hi : v.move with
  | none =>
    have hlast : v.ini.step ≠ 10 := by simpa [hi] using hq
    obtain ⟨hadv, hat, -⟩ := h.stepEnd hr hi
    exact ⟨_, hadv, hat, by simp [hlast]⟩
  | some i =>
    simp only [hi, Bool.and_eq_true] at hq
    obtain ⟨hw, hquiet⟩ := hq
    obtain ⟨hedge, -⟩ := (Pins.quiet_iff _ _).1 hquiet
    obtain ⟨hadv, hat⟩ := h.turn_pinOp hr hi hw hedge
    exact ⟨_, hadv, hat, pinEvents_quiet hquiet _⟩

theorem State.InitAt.turns_quiet {s : State} {v : InitPlace} {p : Pwm} (h : s.InitAt v p) (n : Nat)
    (hq : ∀ k < n, (InitPlace.next^[k] v).quiet = true) :
    ∃ t new, Advances s t new ∧ t.InitAt (InitPlace.next^[n] v) p ∧ ∀ e ∈ new, e.Quiet := by
  induction n with
  | zero => exact ⟨s, [], ⟨⟨(List.append_nil _).symm, rfl⟩, 0, rfl⟩, h, by simp⟩
  | succ n ih =>
    obtain ⟨t, new, hadv, hat, hnew⟩ := ih fun k hk => hq k (by omega)
    obtain ⟨new', hadv', hat', hnew'⟩ := hat.turn_quiet (hq n (by omega))
    exact ⟨_, _, hadv.trans hadv', Function.iterate_succ_apply' InitPlace.next n v ▸ hat', fun e he =>
      (List.mem_append.1 he).elim (hnew e) (hnew' e)⟩

/-! ### The whole sequence (43_init_sequencer.md R181, R184, R186) -/

/-- The lines after steps 1 and 2: the bus and four lines are outputs, all low. -/
def Pins.driven : Pins :=
  { Pins.reset with
    lines :=
      { Pins.reset.lines with
        contrastEn := { dir := .output, out := .low }
        e := { dir := .output, out := .low }
        rw := { dir := .output, out := .low }
        mode := { dir := .output, out := .low } }
    busDir := .output }

/-- The lines once `RESET` is an output and high, in step 5. -/
def Pins.released : Pins :=
  { Pins.driven with lines := { Pins.driven.lines with reset := { dir := .output, out := .high } } }

/-- The lines after step 7, and at the end (R186). -/
def Pins.initialized : Pins :=
  { Pins.released with lines := { Pins.released.lines with masterEn := { dir := .output, out := .high } } }

theorem initialized_addressed (b : Byte) : (Pins.initialized.setBusOut b).addressed = List.range Config.nChips := by
  obtain ⟨-, hcs, -⟩ := addressedChips_spec
  exact (hcs (Pins.initialized.setBusOut b) rfl).1 rfl

/-- The latch event of an initialization command (43_init_sequencer.md R184). -/
def initLatch (t : Nat) (b : Byte) : LatchRecord :=
  { time := t, mode := .command, byte := b, rw := .low, reset := .high, master := .high,
    addressed := List.range Config.nChips, origin := .exec }

/-- A step whose one operation is a command: one latch event, and `InitDone` if the step is the last. -/
theorem State.InitAt.commandStep {s : State} {n : Fin 11} {b b' : Byte} {p : Pwm}
    (h : s.InitAt ⟨⟨.running, n, 0⟩, Pins.initialized.setBusOut b'⟩ p) (hops : initOps n = [.exec b .command]) :
    ∃ (t : State) (new : List Event) (τ : Nat),
      Advances s t (new ++ if n = 10 then [.initDone t.now] else []) ∧
      t.InitAt ⟨if n = 10 then ⟨.ready, 0, 0⟩ else ⟨.running, n + 1, 0⟩, Pins.initialized.setBusOut b⟩ p ∧
      new.filter Event.isLatch = [.latch (initLatch τ b)] ∧ s.now + Config.tSetup ≤ τ ∧
      τ + Config.tPostCmd ≤ t.now ∧ t.arb.tFree = τ + Config.tPostCmd := by
  have hexec : InitPlace.move ⟨⟨.running, n, 0⟩, Pins.initialized.setBusOut b'⟩ = some (.exec b .command) := by
    simp [InitPlace.move, hops]
  have hend : InitPlace.move ⟨⟨.running, n, 1⟩, Pins.initialized.setBusOut b⟩ = none := by
    simp [InitPlace.move, hops]
  have hready : s.execReady := by rw [State.execReady, h.pins]; exact ⟨rfl, rfl, rfl⟩
  have hrw : s.pins.pin .rw = .low := by rw [h.pins]; rfl
  obtain ⟨t, new, r, hadv, hat, hnew, hr, hsetup, hpost, hfree⟩ := h.turns_exec rfl hexec hready hrw
  rw [InitPlace.next_of_some hexec] at hat
  have hdone : t.InitAt ⟨⟨.running, n, 1⟩, Pins.initialized.setBusOut b⟩ p := hat
  obtain ⟨hadv', hat', hnow, harb⟩ := hdone.stepEnd rfl hend
  refine ⟨_, new, r.time, ?_, ?_, ?_, hsetup, hnow ▸ hpost, harb ▸ hfree⟩
  · rw [hnow]
    exact hadv.trans hadv'
  · rwa [InitPlace.next_of_none hend] at hat'
  · rw [hnew, hr, initialized_addressed]
    rfl

/-- From the start up to the rise of `RESET` in step 5. -/
theorem State.InitAt.turns_to_reset {s : State} {p : Pwm} (h : s.InitAt ⟨⟨.running, 1, 0⟩, .reset⟩ p) :
    ∃ (t : State) (pre mid : List Event) (td : Nat),
      Advances s t (pre ++ [.dutyWrite td Config.contrastInit, .delay td .settle Config.tSettle] ++ mid ++
        [.pin t.now .reset .output .high]) ∧
      t.InitAt ⟨⟨.running, 5, 2⟩, .released⟩ { p.configure with duty := Config.contrastInit } ∧
      s.now ≤ td ∧ td + Config.tSettle ≤ t.now ∧ ∀ e ∈ pre ++ mid, e.Quiet := by
  obtain ⟨s1, pre, hadv1, hat1, hpre⟩ := h.turns_quiet 12 (by decide)
  have h1 : s1.InitAt ⟨⟨.running, 3, 0⟩, .driven⟩ p := hat1
  obtain ⟨hadv2, hat2⟩ := h1.turn rfl rfl h1.countOp.perform_pwminit
  obtain ⟨hadv3, hat3⟩ := hat2.turn_setc rfl rfl
  obtain ⟨hadv4, hat4, hnow4, -⟩ := hat3.stepEnd rfl rfl
  obtain ⟨s5, hadv5, hat5, hnow5⟩ := hat4.turns_wait rfl rfl
  obtain ⟨s6, mid, hadv6, hat6, hmid⟩ := hat5.turns_quiet 2 (by decide)
  have h6 : s6.InitAt ⟨⟨.running, 5, 1⟩, Pins.driven.setDir .reset .output⟩
    { p.configure with duty := Config.contrastInit } := hat6
  obtain ⟨hadv7, hat7⟩ := h6.turn_pinOp rfl rfl rfl rfl
  rw [hnow4] at hadv5 hnow5
  have hend : Advances _ _ [] := hadv4
  have hrise : Advances _ _ [.pin (sequencerStep s6).now .reset .output .high] := hadv7
  have hadv := (((((hadv1.trans hadv2).trans hadv3).trans hend).trans hadv5).trans hadv6).trans hrise
  refine ⟨_, pre, mid, _, ?_, hat7, (hadv1.trans (hadv2.trans hadv3)).now_le, hnow5.trans (hadv6.trans hadv7).now_le,
    fun e he => (List.mem_append.1 he).elim (hpre e) (hmid e)⟩
  simpa [intervalOf] using hadv

/-- From the rise of `RESET` to the end: the rest of the pin operations, and the three commands. -/
theorem State.InitAt.turns_from_reset {s : State} {p : Pwm} (h : s.InitAt ⟨⟨.running, 5, 2⟩, .released⟩ p) :
    ∃ (u : State) (post : List Event) (τ₁ τ₂ τ₃ : Nat), Advances s u (post ++ [.initDone u.now]) ∧
      u.InitAt ⟨⟨.ready, 0, 0⟩, .initialized⟩ p ∧
      post.filter Event.isLatch =
        [.latch (initLatch τ₁ 0x39#8), .latch (initLatch τ₂ 0x3A#8), .latch (initLatch τ₃ 0x00#8)] ∧
      s.now + Config.tSetup ≤ τ₁ ∧ τ₁ + Config.tPostCmd + Config.tSetup ≤ τ₂ ∧
      τ₂ + Config.tPostCmd + Config.tSetup ≤ τ₃ ∧ τ₃ + Config.tPostCmd ≤ u.now ∧
      u.arb.tFree = τ₃ + Config.tPostCmd := by
  obtain ⟨s7, quiet, hadv0, hat0, hquiet⟩ := h.turns_quiet 6 (by decide)
  have hat7 : s7.InitAt ⟨⟨.running, 8, 0⟩, Pins.initialized.setBusOut 0x00#8⟩ p := hat0
  obtain ⟨s8, new1, τ₁, hadv1, hat8, hnew1, hsetup1, hpost1, -⟩ := hat7.commandStep rfl
  obtain ⟨s9, new2, τ₂, hadv2, hat9, hnew2, hsetup2, hpost2, -⟩ := State.InitAt.commandStep (n := 9) hat8 rfl
  obtain ⟨u, new3, τ₃, hadv3, hatu, hnew3, hsetup3, hpost3, hfree⟩ := State.InitAt.commandStep (n := 10) hat9 rfl
  have hadv := ((hadv0.trans hadv1).trans hadv2).trans hadv3
  refine ⟨u, quiet ++ new1 ++ new2 ++ new3, τ₁, τ₂, τ₃, by simpa using hadv, hatu, ?_,
    (Nat.add_le_add_right hadv0.now_le _).trans hsetup1, (Nat.add_le_add_right hpost1 _).trans hsetup2,
    (Nat.add_le_add_right hpost2 _).trans hsetup3, hpost3, hfree⟩
  simp only [List.filter_append, filter_isLatch_of_quiet hquiet, hnew1, hnew2, hnew3]
  rfl

end Sys2Proof.Machine
end

section
/-! PROOFS. The statements on 43_init_sequencer.md: `WAIT`, the acceptance of `INIT`, and its end. -/

namespace Sys2Proof.Machine

/-- Settles O43: the pin operations up to the rise of `RESET`, with the contrast write and the settle delay among them, and
from there to the end, with the three commands. -/
theorem initEndsReady : Obligations.InitEndsReady := by
  intro s hpins hini hbusy hfree
  obtain ⟨hidle, -, hwait⟩ := s.busy_eq_false_iff.1 hbusy
  have hstart : (beginInit s).InitAt ⟨⟨.running, 1, 0⟩, .reset⟩ s.pwm := ⟨rfl, hpins, rfl, hidle, hwait, hfree⟩
  obtain ⟨t, pre, mid, td, hadv, hat, htd, hsettle, hquiet⟩ := hstart.turns_to_reset
  obtain ⟨u, post, τ₁, τ₂, τ₃, hadv', hatu, hlatch, hτ₁, hτ₂, hτ₃, hend, htFree⟩ := hat.turns_from_reset
  obtain ⟨⟨htrace, hfault⟩, n, hn⟩ := hadv.trans hadv'
  obtain ⟨hiniu, hpinsu, hpwmu, hidleu, hwaitu, hfreeu⟩ := hatu
  have haccept : exec .init s = .next (beginInit s) := if_pos (by rw [hini])
  have hbusyu : u.busy = false := u.busy_eq_false_iff.2 ⟨hidleu, by simp [hiniu], hwaitu⟩
  have hnone : (pre ++ mid).filter Event.isLatch = [] := filter_isLatch_of_quiet hquiet
  rw [List.filter_append, List.append_eq_nil_iff] at hnone
  rw [beginInit_now] at htd
  refine ⟨beginInit s, u, n, haccept, hn, hiniu, hidleu, hbusyu, hfault, hfreeu, ?_⟩
  rw [hpinsu, hpwmu]
  refine ⟨by decide, rfl, rfl, rfl, by decide, rfl, rfl, rfl, rfl, rfl, rfl, initialized_addressed 0#8, by omega,
    _, initLatch τ₁ 0x39#8, initLatch τ₂ 0x3A#8, initLatch τ₃ 0x00#8, htrace, ?_, rfl, by simp [initLatch],
    (Nat.le_add_right _ _).trans hτ₂, (Nat.le_add_right _ _).trans hτ₃, htFree, pre, mid, post, td, t.now, by simp,
    hsettle, hquiet⟩
  simp [hnone, hlatch]

/-- Settles O42: `INIT` tests `NotStarted`, and no action brings it back. -/
theorem initBeginsOnce : Obligations.InitBeginsOnce := by
  refine ⟨fun s => ⟨fun hn => ?_, fun hn => if_neg hn, fun hr => by simp [State.busy, hr]⟩, fun s t h hr hbegun => ?_⟩
  · have haccept : exec .init s = .next (beginInit s) := if_pos hn
    refine ⟨haccept, fun t ht => ?_⟩
    rw [haccept] at ht
    cases ht
    simp [State.busy]
  · obtain ⟨ts, ha, hact⟩ := step_acts h hr
    exact hact.recordGrows.begun hbegun

/-- Settles O40: the delay passes at acceptance, and the sequencer's next turn finds it over. -/
theorem waitResult : Obligations.WaitResult := fun k s =>
  ⟨beginWait k s, rfl, Nat.add_le_add_left (Nat.le_add_right _ _) _, rfl, by simp [State.busy],
    fun hp => sequencerStep_of_wait hp rfl⟩

end Sys2Proof.Machine
end

section
/-! PROOFS. Runs of the machine, and the turns of the reference host: what a turn of its own and a turn that issues an
operation make of the block, place by place, for the statements on 44_tick_control_loop.md below. -/

namespace Sys2Proof.Machine

/-! ### Runs -/

section
variable {M : Host.Core} {s t : M.State}

theorem coreRun_succ_of_step (h : M.step s = .next t) (n : Nat) : M.run (n + 1) s = M.run n t := by
  rw [Host.Core.run, h]

theorem coreRun_add_of_run {m : Nat} (h : M.run m s = .next t) (n : Nat) : M.run (m + n) s = M.run n t := by
  induction m generalizing s with
  | zero =>
    cases h
    rw [Nat.zero_add]
  | succ m ih =>
    cases hstep : M.step s with
    | next u =>
      rw [coreRun_succ_of_step hstep] at h
      rw [Nat.add_right_comm, coreRun_succ_of_step hstep, ih h]
    | fault r | refused r => simp [Host.Core.run, hstep] at h

end

theorem run_succ_of_step {s t : State} (h : step s = .next t) (n : Nat) :
    Host.Core.run core (n + 1) s = Host.Core.run core n t := coreRun_succ_of_step (M := core) h n

theorem run_add_of_run {s t : State} {m : Nat} (h : Host.Core.run core m s = .next t) (n : Nat) :
    Host.Core.run core (m + n) s = Host.Core.run core n t := coreRun_add_of_run (M := core) h n

/-- While a transaction is in flight and no other agent moves, the run is its phases (41_transaction_sequencer.md
R132). -/
theorem run_phases {s : State} {n : Nat} (ht : s.turns = []) (hp : ∀ k < n, (phaseStep^[k] s).seq.phase ≠ .idle) :
    Host.Core.run core n s = .next (phaseStep^[n] s) := by
  induction n generalizing s with
  | zero => rfl
  | succ n ih =>
    have hstep : step s = .next (phaseStep s) :=
      (step_of_turns_nil ht).trans (mainStep_of_phase_ne_idle (hp 0 n.succ_pos))
    rw [run_succ_of_step hstep, ih (by simpa using ht) fun k hk => hp (k + 1) (Nat.succ_lt_succ hk)]
    rfl

theorem run_transaction {s : State} (ht : s.turns = []) (hp : s.seq.phase = .p1) :
    Host.Core.run core 6 s = .next (phaseStep^[6] s) := by
  refine run_phases ht fun k hk => ?_
  interval_cases k <;> simp [hp, Phase.next]

/-! ### The transaction by its latch event and its delay (44_tick_control_loop.md R209, R210) -/

/-- The events of the six phases, the latch event and the delay after it set apart. -/
theorem transaction_records_latch {s : State} (h : s.Unhindered) (hp : s.seq.phase = .p1) :
    ∃ mid, mid.any Event.isLatch = false ∧
      Records s (phaseStep^[6] s) (mid ++ [.latch ((phaseStep^[5] s).latchRecord .exec),
        .delay (phaseStep^[5] s).now (postDelayOf s.seq.mode) (intervalOf (postDelayOf s.seq.mode))]) := by
  have hrec := transaction_records h hp
  have hsplit (es : List Event) (x l d : Event) : es ++ [x, l] ++ [d] = es ++ [x] ++ [l, d] := by simp
  rw [hsplit] at hrec
  refine ⟨_, ?_, hrec⟩
  split_ifs <;> rfl

/-- The whole transaction takes at least its two delays (41_transaction_sequencer.md R122). -/
theorem transaction_duration {s : State} (hp : s.seq.phase = .p1) :
    s.now + Config.tSetup + intervalOf (postDelayOf s.seq.mode) ≤ (phaseStep^[6] s).now := by
  have hstart : s.now ≤ (phaseStep^[3] s).now :=
    ((phaseStep_now_le s).trans (phaseStep_now_le _)).trans (phaseStep_now_le _)
  have hsetup := transaction_setup_time hp
  have hpost := transaction_now hp
  omega

/-! ### The reference host at an idle port (44_tick_control_loop.md R204) -/

/-- The reference host `c` is at the port, the block is not busy, and the coming turns are the host's and the
sequencer's. -/
structure State.LoopAt (s : State) (c : ControlLoop) : Prop where
  host : s.host = .loop c
  unheld : s.busy = false
  turns : s.turns = []

/-- From `s` to `t` time may have passed; exactly the events `new` are recorded, and no fault; the pins, the two
sequencers, the arbiter and the coming turns are as they were. -/
structure Undisturbed (s t : State) (new : List Event) : Prop extends Records s t new where
  pins : t.pins = s.pins
  seq : t.seq = s.seq
  ini : t.ini = s.ini
  waitActive : t.waitActive = s.waitActive
  arb : t.arb = s.arb
  turns : t.turns = s.turns
  now : s.now ≤ t.now

theorem Undisturbed.trans {s t u : State} {new new' : List Event} (h : Undisturbed s t new)
    (k : Undisturbed t u new') : Undisturbed s u (new ++ new') :=
  ⟨h.toRecords.trans k.toRecords, k.pins.trans h.pins, k.seq.trans h.seq, k.ini.trans h.ini,
    k.waitActive.trans h.waitActive, k.arb.trans h.arb, k.turns.trans h.turns, h.now.trans k.now⟩

section
variable {s t : State} {new : List Event} (h : Undisturbed s t new)
include h

theorem Undisturbed.loopAt {c c' : ControlLoop} (hs : s.LoopAt c) (ht : t.host = .loop c') : t.LoopAt c' :=
  ⟨ht, by simpa [State.busy, h.seq, h.ini, h.waitActive] using hs.unheld, h.turns.trans hs.turns⟩

theorem Undisturbed.execReady (hs : s.execReady) : t.execReady := by
  rwa [State.execReady, h.pins]

theorem Undisturbed.busFree (hs : s.busFree) : t.busFree := by
  obtain ⟨hfree, hstable⟩ := hs
  rw [State.busFree, h.arb]
  exact ⟨hfree.trans h.now, hstable.trans h.now⟩

end

/-- `s` with the `EXEC cursor, Data` of the loop accepted and the host gone on to advance the cursor. -/
def State.execIssued (s : State) (c : ControlLoop) : State :=
  beginExec c.cursor .data { s with host := .loop { c with place := .advanceCursor } }

section
variable {s : State} {c : ControlLoop} (h : s.LoopAt c)
include h

/-- The port does not hold the host (41_transaction_sequencer.md R132). -/
theorem State.LoopAt.step_eq_hostStep : step s = hostStep s := by
  simp [step_of_turns_nil h.turns, mainStep, h.unheld]

/-- A turn in which the host issues no operation takes time and leaves the block (00_scope.md R8). -/
theorem State.LoopAt.own_turn {c' : ControlLoop} (hturn : c.turn s.response = (none, c')) :
    ∃ t, step s = .next t ∧ t.LoopAt c' ∧ Undisturbed s t [] ∧ t.pwm = s.pwm ∧ t.tick = s.tick := by
  have hstep : step s = .next { s with host := .loop c' }.stepTime := by
    simp [h.step_eq_hostStep, hostStep, h.host, hturn]
  have hkept : Undisturbed s { s with host := .loop c' }.stepTime [] :=
    ⟨⟨by simp, rfl⟩, rfl, rfl, rfl, rfl, rfl, rfl, Nat.le_add_right _ _⟩
  exact ⟨_, hstep, hkept.loopAt h rfl, hkept, rfl, rfl⟩

/-- A turn in which the host issues a well-formed operation is the port's acceptance of it (30_encoding.md R80). -/
theorem State.LoopAt.issuing_turn {i : Instr} {c' : ControlLoop}
    (hturn : c.turn s.response = (some (encode i), c')) (hi : i.wellFormed = true) :
    step s = exec i.core { s with host := .loop c' } := by
  have hword : step s = runWord (encode i) { s with host := .loop c' } := by
    simp [h.step_eq_hostStep, hostStep, h.host, hturn]
  rw [hword, runWord_of_ok (decodeInvertsEncode i hi)]

/-- The turn at `RDTICK` (44_tick_control_loop.md R201). -/
theorem State.LoopAt.rdtick_turn (hc : c.place = .issueRdtick) :
    ∃ t n, step s = .next t ∧ t.LoopAt { c with place := .testTick } ∧ Undisturbed s t [.tickRead n s.tick] ∧
      t.response = some s.tick := by
  have hstep : step s = .next (rdtickBody { s with host := .loop { c with place := .testTick } }) :=
    h.issuing_turn (i := .rdtick) (by simp [ControlLoop.turn, hc]) rfl
  have hkept : Undisturbed s (rdtickBody { s with host := .loop { c with place := .testTick } })
      [.tickRead (s.now + Config.freeTime s.draws) s.tick] :=
    ⟨⟨rfl, rfl⟩, rfl, rfl, rfl, rfl, rfl, rfl, Nat.le_add_right _ _⟩
  exact ⟨_, _, hstep, hkept.loopAt h rfl, hkept, rfl⟩

/-- The turn at `CLRTICK` (44_tick_control_loop.md R202). -/
theorem State.LoopAt.clrtick_turn (hc : c.place = .issueClrtick) :
    ∃ t, step s = .next t ∧ t.LoopAt { c with place := .issueExec } ∧ Undisturbed s t [] ∧ t.tick = false := by
  have hstep : step s = .next (clrtickBody { s with host := .loop { c with place := .issueExec } }) :=
    h.issuing_turn (i := .clrtick) (by simp [ControlLoop.turn, hc]) rfl
  have hkept : Undisturbed s (clrtickBody { s with host := .loop { c with place := .issueExec } }) [] :=
    ⟨⟨by simp, rfl⟩, rfl, rfl, rfl, rfl, rfl, rfl, Nat.le_add_right _ _⟩
  exact ⟨_, hstep, hkept.loopAt h rfl, hkept, rfl⟩

/-- The poll of the tick flag: the read, and the test of its answer (44_tick_control_loop.md R206). -/
theorem State.LoopAt.run_poll (hc : c.place = .issueRdtick) :
    ∃ t n, Host.Core.run core 2 s = .next t ∧
      t.LoopAt { c with place := if s.tick then .issueClrtick else .readHost } ∧
      Undisturbed s t [.tickRead n s.tick] := by
  obtain ⟨t, n, hstep, hat, hkept, hresponse⟩ := h.rdtick_turn hc
  have htest : ({ c with place := .testTick } : ControlLoop).turn t.response =
      (none, { c with place := if s.tick then .issueClrtick else .readHost }) := by
    rw [hresponse]
    cases s.tick <;> rfl
  obtain ⟨u, hstep', hat', hkept', -⟩ := hat.own_turn htest
  exact ⟨u, n, (run_succ_of_step hstep 1).trans (run_succ_of_step hstep' 0), hat', hkept.trans hkept'⟩

/-- The turn at `EXEC cursor, Data` is the acceptance of the transaction (41_transaction_sequencer.md R122). -/
theorem State.LoopAt.exec_turn (hc : c.place = .issueExec) : step s = .next (s.execIssued c) :=
  h.issuing_turn (i := .exec c.cursor .data) (by simp [ControlLoop.turn, hc]) rfl

/-- The six phases leave the host where it waits for their end (41_transaction_sequencer.md R132). -/
theorem State.LoopAt.transaction_end :
    (phaseStep^[6] (s.execIssued c)).LoopAt { c with place := .advanceCursor } := by
  obtain ⟨-, hini, hwait⟩ := s.busy_eq_false_iff.1 h.unheld
  refine ⟨by simp [State.execIssued], (State.busy_eq_false_iff _).2 ?_, by simpa [State.execIssued] using h.turns⟩
  simp [State.execIssued, Phase.next, hini, hwait]

/-- The `EXEC cursor, Data` of the loop, from its acceptance to the advance of the cursor (44_tick_control_loop.md
R206). -/
theorem State.LoopAt.run_exec (hc : c.place = .issueExec) (hready : s.execReady) (hrw : s.pins.pin .rw = .low)
    (hfree : s.busFree) :
    ∃ (u : State) (mid : List Event) (r : LatchRecord), Host.Core.run core 8 s = .next u ∧
      u.LoopAt { c with cursor := c.cursor + 1#8, place := .readHost } ∧ u.tick = s.tick ∧ u.busFree ∧
      s.now + Config.tSetup + Config.tPostData ≤ u.now ∧
      Records s u (mid ++ [.latch r, .delay r.time .postData Config.tPostData]) ∧
      mid.any Event.isLatch = false ∧ r.mode = .data ∧ r.byte = c.cursor ∧ r.origin = .exec := by
  have ha : (s.execIssued c).Unhindered := beginExec_unhindered (s := { s with host := _ }) _ _ hready hrw hfree
  obtain ⟨mid, hmid, hrec⟩ := transaction_records_latch ha rfl
  have hlatch := transaction_latchRecord ha.ready rfl
  obtain ⟨u, hadvance, hat, hkept, -, htick⟩ :=
    h.transaction_end.own_turn (c' := { c with cursor := c.cursor + 1#8, place := .readHost }) rfl
  have hrun : Host.Core.run core 8 s = .next u := by
    have htransaction := run_add_of_run (run_transaction (s := s.execIssued c) h.turns rfl) 1
    exact ((run_succ_of_step (h.exec_turn hc) 7).trans htransaction).trans (run_succ_of_step hadvance 0)
  have hall := hrec.trans hkept.toRecords
  rw [List.append_nil] at hall
  exact ⟨u, mid, _, hrun, hat, by simpa [State.execIssued] using htick, hkept.busFree (transaction_busFree ha rfl),
    (transaction_duration (s := s.execIssued c) rfl).trans hkept.now, ⟨hall.trace, hall.fault⟩, hmid,
    congrArg LatchRecord.mode hlatch, congrArg LatchRecord.byte hlatch, rfl⟩

end

/-! ### The tick timer, the host byte and the transport (44_tick_control_loop.md R200, R205, R207) -/

/-- The tick timer's turn (44_tick_control_loop.md R200). -/
theorem step_of_turns_tick {s : State} {ts : List Turn} (h : s.turns = .tick :: ts) :
    step s = .next (tickEvent { s with turns := ts }) := by
  simp [step, turnStep, h]

theorem ControlLoop.serveByte_plus (c : ControlLoop) : c.serveByte 0x2B#8 =
    { c with sent := c.sent ++ [.byte 0x2B#8], contrast := c.contrast + 8#8, place := .issueSetc } := rfl

theorem ControlLoop.serveByte_of_ne (c : ControlLoop) {b : Byte} (h : b ≠ 0x2B#8) :
    c.serveByte b = { c with sent := c.sent ++ [.byte b], place := .issueRdtick } := if_neg h

theorem ControlLoop.turn_of_byte {c : ControlLoop} {b : Byte} {bs : List (Option Byte)} (hc : c.place = .readHost)
    (hb : c.inbox = some b :: bs) (response : Option Bool) :
    c.turn response = (none, { c with inbox := bs }.serveByte b) := by
  simp [ControlLoop.turn, hc, hb]

theorem ControlLoop.turn_of_no_byte {c : ControlLoop} (hc : c.place = .readHost)
    (hb : c.inbox = [] ∨ ∃ bs, c.inbox = none :: bs) (response : Option Bool) :
    c.turn response = (none, { c with inbox := c.inbox.tail, place := .issueRdtick }) := by
  rcases hb with hb | ⟨bs, hb⟩
  · cases c
    simp_all [ControlLoop.turn]
  · simp [ControlLoop.turn, hc, hb]

/-- The turn at `SETC` (42_pwm_contrast.md R152). -/
theorem State.LoopAt.setc_turn {s : State} {c : ControlLoop} (h : s.LoopAt c) (hc : c.place = .issueSetc) :
    step s = .next (setcBody c.contrast { s with host := .loop { c with place := .issueRdtick } }) :=
  h.issuing_turn (i := .setc c.contrast) (by simp [ControlLoop.turn, hc]) rfl

/-- However many turns go by, the host that waits for the transport is where it was (44_tick_control_loop.md R207). -/
theorem State.LoopAt.run_waiting {s : State} {c : ControlLoop} (h : s.LoopAt c) (hc : c.place = .waitConfigured)
    (hnone : c.configured = []) (n : Nat) :
    ∃ u, Host.Core.run core n s = .next u ∧ u.LoopAt c ∧ u.pins = s.pins ∧ Records s u [] ∧ u.pwm = s.pwm := by
  induction n generalizing s with
  | zero => exact ⟨s, rfl, h, rfl, ⟨by simp, rfl⟩, rfl⟩
  | succ n ih =>
    obtain ⟨t, hstep, hat, hkept, hpwm, -⟩ := h.own_turn (c' := c) (by simp [ControlLoop.turn, hc, hnone])
    obtain ⟨u, hrun, hat', hpins, hrec, hpwm'⟩ := ih hat
    exact ⟨u, (run_succ_of_step hstep n).trans hrun, hat', hpins.trans hkept.pins, hkept.toRecords.trans hrec,
      hpwm'.trans hpwm⟩

end Sys2Proof.Machine
end

section
/-! PROOFS. The statements on 44_tick_control_loop.md: the reference host's bytes, its tick service and its waits, and the
tick flag. -/

namespace Sys2Proof.Machine

/-- Settles O49: the echo and the new contrast are the host's own turn, and the `SETC` is the next. -/
theorem loopServesAHostByte : Obligations.LoopServesAHostByte := by
  refine ⟨fun s c b bs hh hc hb hbusy ht => ?_, fun s c hh hc hb hbusy ht => ?_⟩
  · have hs : s.LoopAt c := ⟨hh, hbusy, ht⟩
    obtain ⟨t, hstep, hat, hkept, hpwm, -⟩ := hs.own_turn (ControlLoop.turn_of_byte hc hb _)
    refine ⟨t, hstep, hkept.pins, hpwm, by simpa using hkept.trace, hkept.fault, fun hne => ?_, fun hplus => ?_⟩
    · rw [hat.host, ControlLoop.serveByte_of_ne _ hne]
    · subst hplus
      rw [ControlLoop.serveByte_plus] at hat
      exact ⟨hat.host, _, hat.setc_turn rfl, by simp [hpwm], hkept.pins, rfl⟩
  · have hs : s.LoopAt c := ⟨hh, hbusy, ht⟩
    obtain ⟨t, hstep, hat, hkept, hpwm, -⟩ := hs.own_turn (ControlLoop.turn_of_no_byte hc hb _)
    exact ⟨t, hstep, hkept.pins, hpwm, by simpa using hkept.trace, hkept.fault, hat.host⟩

/-- Settles O50: the poll, the `CLRTICK`, and the transaction with the advance of the cursor, in two, one and eight
turns. -/
theorem loopServicesOneTick : Obligations.LoopServicesOneTick := by
  intro s c hh hc hbusy ht htick hready hrw hfree
  have hs : s.LoopAt c := ⟨hh, hbusy, ht⟩
  obtain ⟨a, n, hpoll, hata, hkepta⟩ := hs.run_poll hc
  rw [htick] at hata hkepta
  obtain ⟨b, hclear, hatb, hkeptb, htickb⟩ := hata.clrtick_turn rfl
  have hkept : Undisturbed s b [.tickRead n true] := hkepta.trans hkeptb
  obtain ⟨u, mid, r, hexec, hatu, htick', hfree', hnow, hrec, hmid, hlatch⟩ :=
    hatb.run_exec rfl (hkept.execReady hready) (by rw [hkept.pins, hrw]) (hkept.busFree hfree)
  obtain ⟨htrace, hfault⟩ := hkept.toRecords.trans hrec
  have hstart := hkept.now
  have hrun : Host.Core.run core 11 s = .next u :=
    ((run_add_of_run hpoll 9).trans (run_succ_of_step hclear 8)).trans hexec
  exact ⟨u, hrun, hatu.host, htick'.trans htickb, hatu.unheld, hfault, hfree', by omega, n, mid, r,
    by simpa using htrace, hmid, hlatch⟩

/-- Settles O52: every turn is a poll of the bit, which takes time only. -/
theorem loopWaitsForeverForTheTransport : Obligations.LoopWaitsForeverForTheTransport := by
  intro s c n hh hc hnone hbusy ht
  have hs : s.LoopAt c := ⟨hh, hbusy, ht⟩
  obtain ⟨u, hrun, hat, hpins, ⟨htrace, hfault⟩, hpwm⟩ := hs.run_waiting hc hnone n
  exact ⟨u, hrun, hat.host.trans hh.symm, hpins, hfault, by simpa using htrace, hpwm⟩

/-- Settles O51: the poll of a clear flag ends at the read of the next byte. -/
theorem loopPollsAgainWithoutATick : Obligations.LoopPollsAgainWithoutATick := by
  intro s c hh hc hbusy ht htick
  have hs : s.LoopAt c := ⟨hh, hbusy, ht⟩
  obtain ⟨u, n, hrun, hat, hkept⟩ := hs.run_poll hc
  rw [htick] at hat hkept
  exact ⟨u, hrun, hat.host, hkept.pins, hkept.seq, hkept.fault, n, hkept.trace⟩

/-- Settles O45: the tick timer's turn is its event. -/
theorem tickEventResult : Obligations.TickEventResult := fun _ _ => step_of_turns_tick

/-- Settles O46: the fields the body writes are those of the rule. -/
theorem rdtickResult : Obligations.RdtickResult := fun _ => rfl

/-- Settles O47: the fields the body writes are those of the rule. -/
theorem clrtickResult : Obligations.ClrtickResult := fun _ => rfl

end Sys2Proof.Machine
end

section
/-! PROOFS. `FAULT` against the fault events of the trace, update by update, and the next state that every turn has
(60_exceptions.md R222). -/

namespace Sys2Proof.Machine

/-! ### The bits of `FAULT` and the fault events (60_exceptions.md R221, R222) -/

/-- An update keeps the record of the faults if it sets exactly the bits of the fault events it appends. -/
theorem State.FaultsRecorded.of_append {s t : State} (h : s.FaultsRecorded) {new : List Event}
    (htrace : t.trace = s.trace ++ new)
    (hfault : ∀ c, t.faulted c = (s.faulted c || new.any (Event.isFault c))) : t.FaultsRecorded := fun c => by
  rw [htrace, hfault, List.any_append, Bool.or_eq_true, Bool.or_eq_true, h c]

/-- Appending events that are no fault events needs no bit. -/
theorem State.FaultsRecorded.append {s : State} (h : s.FaultsRecorded) {es : List Event}
    (hes : ∀ e ∈ es, ∀ c, e.isFault c = false) : (s.append es).FaultsRecorded :=
  h.of_append rfl fun c => by
    have hnone : es.any (Event.isFault c) = false := List.any_eq_false.2 fun e he => by simp [hes e he c]
    rw [hnone, Bool.or_false]
    rfl

theorem State.FaultsRecorded.append_event {s : State} (h : s.FaultsRecorded) {e : Event}
    (he : ∀ c, e.isFault c = false) : (s.append [e]).FaultsRecorded :=
  h.append fun e' he' => by rwa [List.mem_singleton.1 he']

/-- `raise` sets the bit of the cause it records and no other. -/
theorem State.FaultsRecorded.raise {s : State} (h : s.FaultsRecorded) (c : Cause) (d : FaultDetail) :
    (s.raise c d).FaultsRecorded :=
  h.of_append rfl fun c' => by
    rw [State.faulted, raise_fault, faulted_or_mask]
    simp [State.faulted, eq_comm]

theorem State.FaultsRecorded.raiseIf {s : State} (h : s.FaultsRecorded) (b : Bool) (c : Cause) (d : FaultDetail) :
    (s.raiseIf b c d).FaultsRecorded := by
  cases b with
  | true => exact h.raise c d
  | false => exact h

theorem State.FaultsRecorded.stampStableIf {s : State} (h : s.FaultsRecorded) (b : Bool) :
    (s.stampStableIf b).FaultsRecorded := by
  cases b <;> exact h

/-- `Latch` raises under its two checks and appends its latch event (41_transaction_sequencer.md R126). -/
theorem State.FaultsRecorded.latch {s : State} (h : s.FaultsRecorded) (o : Origin) : (s.latch o).FaultsRecorded :=
  ((h.raiseIf _ _ _).raiseIf _ _ _).append_event fun _ => rfl

theorem State.FaultsRecorded.latchIf {s : State} (h : s.FaultsRecorded) (b : Bool) (o : Origin) :
    (s.latchIf b o).FaultsRecorded := by
  cases b with
  | true => exact h.latch o
  | false => exact h

theorem not_isFault_of_mem_pinEvents {before after : Pins} {t : Nat} {e : Event} (he : e ∈ pinEvents before after t)
    (c : Cause) : e.isFault c = false := by
  obtain ⟨l, -, rfl⟩ := List.mem_map.1 he
  rfl

theorem not_isFault_of_mem_busEvents {before after : Pins} {t : Nat} {e : Event} (he : e ∈ busEvents before after t)
    (c : Cause) : e.isFault c = false := by
  unfold busEvents at he
  split at he
  · exact absurd he List.not_mem_nil
  · rw [List.mem_singleton.1 he]
    rfl

/-- `Commit` appends the pin and bus events, then raises, stamps and latches under its conditions (40_pin_bus.md
R103). -/
theorem State.FaultsRecorded.changePins {s : State} (h : s.FaultsRecorded) (p : Pins) (o : Origin) :
    (s.changePins p o).FaultsRecorded := by
  have hmoved : ({ s with pins := p } : State).FaultsRecorded := h
  have hevents : ∀ e ∈ pinEvents s.pins p s.now ++ busEvents s.pins p s.now, ∀ c, e.isFault c = false :=
    fun e he => (List.mem_append.1 he).elim not_isFault_of_mem_pinEvents not_isFault_of_mem_busEvents
  exact (((hmoved.append hevents).raiseIf _ _ _).stampStableIf _).latchIf _ _

theorem State.FaultsRecorded.endInitStep {s : State} (h : s.FaultsRecorded) : (endInitStep s).FaultsRecorded := by
  unfold Machine.endInitStep
  split
  · exact State.FaultsRecorded.append_event (s := { s with ini := _ }) h fun _ => rfl
  · exact h

theorem Acts.faultsRecorded {s t : State} (h : Acts s t) : s.FaultsRecorded → t.FaultsRecorded :=
  acts_rel (fun s t => s.FaultsRecorded → t.FaultsRecorded) (fun _ => id) (fun hab hbc => hbc ∘ hab)
    (time := fun _ hs => hs)
    (sleep := fun _ _ hs => hs.append_event fun _ => rfl)
    (raise := fun _ c d hs => hs.raise c d)
    (change := fun _ p o hs => hs.changePins p o)
    (draw := fun _ _ _ hs => hs)
    (seq := fun _ _ _ hs => hs)
    (wait := fun _ _ hs => hs)
    (pwm := fun _ _ hs => hs)
    (tick := fun _ _ hs => hs)
    (resp := fun _ _ hs => hs)
    (op := fun _ _ hs => hs)
    (duty := fun _ _ hs => hs.append_event fun _ => rfl)
    (tread := fun _ _ hs => hs.append_event fun _ => rfl)
    (begi := fun _ _ hs => hs)
    (endi := fun _ _ hs => hs.endInitStep) h

/-! ### Every turn has a next state (60_exceptions.md R222, R223; 41_transaction_sequencer.md R134) -/

/-- The port stops on no word: a legal one is a well-formed operation, and an illegal one is a fault of the block. -/
theorem runWord_next (w : Word) (s : State) : ∃ t, runWord w s = .next t := by
  cases hw : decode w with
  | ok i => exact runWord_of_ok hw s ▸ exec_next_of_wellFormed i s (decode_wellFormed w i hw)
  | error why => exact ⟨_, runWord_of_error hw s⟩

theorem hostStep_next (s : State) : ∃ t, hostStep s = .next t := by
  unfold hostStep
  split
  · exact ⟨s, rfl⟩
  · exact runWord_next _ _
  · split
    · exact runWord_next _ _
    · exact ⟨_, rfl⟩

theorem mainStep_next (s : State) : ∃ t, mainStep s = .next t := by
  unfold mainStep
  split
  · exact ⟨sequencerStep s, rfl⟩
  · exact hostStep_next s

end Sys2Proof.Machine
end

section
/-! PROOFS. The statements on 60_exceptions.md: `FAULT` agrees with the trace, and no step stops. -/

namespace Sys2Proof.Machine

/-- Settles O57: every primitive update sets exactly the bits of the fault events it appends, and so does every action; a
reset clears both. -/
theorem stepKeepsFaultsRecorded : Obligations.StepKeepsFaultsRecorded := fun _ _ hs h =>
  step_keeps State.FaultsRecorded (fun _ _ _ h => h) (fun _ => reset_faultsRecorded) Acts.faultsRecorded hs h

/-- Settles O7, by whose turn it is: the port stops on no word, and the sequencer, the generator, the tick timer and the
reset event always answer a state. -/
theorem stepNeverStops : Obligations.StepNeverStops := by
  intro s
  unfold step turnStep
  split
  case h_1 | h_2 => exact mainStep_next _
  case h_3 | h_4 | h_5 => exact ⟨_, rfl⟩

end Sys2Proof.Machine
end

section
/-! PROOFS. The turn of a host with nothing to issue, the turn of the reset event, and what the pins read while the
block drives none (70_reset_and_hazards.md R250, R251), for the statements on that file below. -/

namespace Sys2Proof.Machine

/-- The turn of an unheld host with no word to issue (70_reset_and_hazards.md R251). -/
theorem mainStep_of_stream_nil {s : State} (hb : s.busy = false) (hh : s.host = .stream []) : mainStep s = .next s := by
  simp [mainStep, hostStep, hb, hh]

/-- The turn of the reset event (70_reset_and_hazards.md R250). -/
theorem step_of_turns_reset {s : State} {ts : List Turn} (h : s.turns = .reset :: ts) :
    step s = .next (resetBlock { s with turns := ts }) := by
  simp [step, turnStep, h]

theorem reset_busy : State.reset.busy = false :=
  (State.busy_eq_false_iff _).mpr ⟨rfl, nofun, rfl⟩

theorem Pins.reset_dir (l : Line) : Pins.reset.dir l = .input :=
  congrArg LineReg.dir (Pins.reset_get l)

theorem Pins.reset_pin (l : Line) : Pins.reset.pin l = Config.ext l :=
  Pins.pin_of_input _ _ (Pins.reset_dir l)

theorem Pins.pinBus_of_input {p : Pins} (h : p.busDir = .input) : p.pinBus = Config.extBus := by
  simp [Pins.pinBus, h]

/-- In the reference wiring `CS[0]`, the one select line there is, is the one line of the block that stands at 1
(10_state.md R24). -/
theorem ext_eq_low_of_ne_cs_zero {l : Line} (hw : l.wellFormed = true) (h : l ≠ .cs 0) : Config.ext l = .low := by
  cases l with
  | cs k =>
    have hk : k < Config.nCS := of_decide_eq_true hw
    have h0 : k = 0 := Nat.lt_one_iff.mp hk
    exact absurd (congrArg Line.cs h0) h
  | _ => rfl

end Sys2Proof.Machine
end

section
/-! PROOFS. The statements on 70_reset_and_hazards.md: the idle block waits, and what reset makes of the block. -/

namespace Sys2Proof.Machine

/-- Settles O8: the turn is the host's, which has no word to issue. -/
theorem idleBlockWaits : Obligations.IdleBlockWaits := fun _ hbusy hhost hturns =>
  (step_of_turns_nil hturns).trans (mainStep_of_stream_nil hbusy hhost)

/-- Settles O10: at reset nothing is driven, so every pin reads what stands there from outside, the step waits, and a
first word is taken by the port, which holds no host. -/
theorem pinsAfterReset : Obligations.PinsAfterReset := by
  have hwaits : step State.reset = .next State.reset := idleBlockWaits _ reset_busy rfl rfl
  have haccepts (w : Word) (ws : List Word) :
      step { State.reset with host := .stream (w :: ws) } = runWord w { State.reset with host := .stream ws } :=
    (step_of_turns_nil rfl).trans (mainStep_of_stream ((busy_host _ _).trans reset_busy) rfl)
  exact ⟨reset_busy, Pins.reset_dir, rfl, ⟨_, hwaits, rfl, rfl, reset_busy⟩, haccepts, Pins.pinBus_of_input rfl,
    Pins.reset_pin _, fun l hw hl => (Pins.reset_pin l).trans (ext_eq_low_of_ne_cs_zero hw hl)⟩

/-- Settles O11: the turn is the reset event's, which keeps the host, the coming turns and the count of draws only. -/
theorem resetEventRestoresEverything : Obligations.ResetEventRestoresEverything := fun _ _ => step_of_turns_reset

end Sys2Proof.Machine
end
